-- ==== Sys2Proof/Word.lean ====
section
/-! DEFINITION. The word types of the part and its widths: bytes of the exchange memory, 32-bit registers,
the uptime count. Everything a test could show wrong about their use stands under Machine/. -/

namespace Sys2Proof

/-- A byte of the exchange memory, of an order slot or of the description image. -/
abbrev Byte := BitVec 8

/-- A 32-bit port register (R140) or a 32-bit access (R139). -/
abbrev Word := BitVec 32

/-- The uptime in milliseconds, a 32-bit count that wraps (R1). -/
abbrev Uptime := BitVec 32

end Sys2Proof
end

