-- ==== Sys2Proof/Syntax.lean ====
section
/-! DEFINITION. The commands of the part, one constructor for each row of spec/opcode_table.json, with the operands
that the rule of the row gives it. A command carries what reaches the part from outside at that step: the inputs a
sample brings in, the value a port writes, the arguments an order holds. -/

namespace Sys2Proof

/-- Bays 0 to 95 (scope, "The enclosure it manages"). -/
abbrev BayNo := Fin 96
/-- Drawers 0 to 3. -/
abbrev DrawerNo := Fin 4
/-- 12 V bay rails 0 to 3. -/
abbrev RailNo := Fin 4
/-- Cooling zones 0 to 3. -/
abbrev ZoneNo := Fin 4
/-- Fans 0 to 11. -/
abbrev FanNo := Fin 12
/-- Temperature sensors 0 to 15. -/
abbrev SensorNo := Fin 16
/-- Order slots 0 to 23 of one port. -/
abbrev SlotNo := Fin 24
/-- Power profiles 0 to 7. -/
abbrev ProfileNo := Fin 8
/-- Indicator patterns 0 to 31. -/
abbrev PatternNo := Fin 32
/-- The supply-good lines 0 and 1. -/
abbrev SupplyNo := Fin 2

/-- The two ports. -/
inductive Port where
  | a
  | b
  deriving DecidableEq, Repr

/-- What one frame of the bay scan chains brings in (R4): for bay b, bit b of each level. -/
structure ScanFrame where
  /-- presence level, 1 present -/
  presence : BitVec 96
  /-- load switch fault flag, 1 set -/
  fault : BitVec 96
  /-- switch feedback, 1 on -/
  feedback : BitVec 96
  deriving DecidableEq, Repr

/-- The data of a port write of one, two or four bytes (R139), little-endian. -/
inductive WriteData where
  | byte (v : BitVec 8)
  | half (v : BitVec 16)
  | word (v : BitVec 32)
  deriving DecidableEq, Repr

/-- The direction an address is sent with on the sensor line (R68). -/
inductive BusDirection where
  | write
  | read
  deriving DecidableEq, Repr

/-- How a sensor read completes (R68): both bytes clocked in, or a missing acknowledge. -/
inductive ReadOutcome where
  /-- the two bytes in the order they come on the wire -/
  | good (first second : Byte)
  /-- of the address sent with this direction -/
  | addressNack (direction : BusDirection)
  | pointerNack
  deriving DecidableEq, Repr

/-- One curve point as a SET_ZONE_CURVE order carries it (R149): temperature, then duty. -/
structure RawPoint where
  temp : BitVec 16
  duty : Byte
  deriving DecidableEq, Repr

/-- The commands. An order's operands are its port, its slot and its argument bytes as the slot holds them, in range or
not: the part checks them itself (R149). -/
inductive Instr where
  /-- POWER_ON_RESET (R183) -/
  | powerOnReset
  /-- PIN_RESET (R183) -/
  | pinReset
  /-- END_OF_LOADING (R185): what the serial EEPROM returns from address 0, the scan frame, the drawer-closed lines and
  the supply-good lines of that moment -/
  | endOfLoading (image : List Byte) (frame : ScanFrame) (drawersClosed : BitVec 4) (suppliesGood : BitVec 2)
  /-- UPTIME_TICK (R1) -/
  | uptimeTick
  /-- BAY_SCAN_SAMPLE (R4) -/
  | bayScanSample (frame : ScanFrame)
  /-- INSERTED (R9) -/
  | inserted (bay : BayNo)
  /-- REMOVAL_CONFIRMED (R12) -/
  | removalConfirmed (bay : BayNo)
  /-- SURGE_END (R44, R13) -/
  | surgeEnd (bay : BayNo)
  /-- COOL_OFF_END (R59, R13) -/
  | coolOffEnd (bay : BayNo)
  /-- RETRY_CLEARANCE (R61) -/
  | retryClearance (bay : BayNo)
  /-- DRAWER_LINE_SAMPLE (R22): bit d is drawer d's line, 1 closed -/
  | drawerLineSample (drawersClosed : BitVec 4)
  /-- DRAWER_DEBOUNCE_END (R22, R23) -/
  | drawerDebounceEnd (drawer : DrawerNo)
  /-- SETTLE_TIMER_END (R23) -/
  | settleTimerEnd (drawer : DrawerNo)
  /-- SUPPLY_LINE_SAMPLE (R28): bit n is supply-good line n -/
  | supplyLineSample (suppliesGood : BitVec 2)
  /-- SUPPLY_DEBOUNCE_END (R28) -/
  | supplyDebounceEnd (line : SupplyNo)
  /-- STAGGER_END (R43) -/
  | staggerEnd (rail : RailNo)
  /-- RISING_CROSSING (R49): the current the rail now carries, in ca (rounded up) -/
  | risingCrossing (rail : RailNo) (current : Nat)
  /-- FALLING_CROSSING (R50): the current the rail now carries, in ca (rounded up) -/
  | fallingCrossing (rail : RailNo) (current : Nat)
  /-- HOLD_OFF_END (R50) -/
  | holdOffEnd (rail : RailNo)
  /-- TEMPERATURE_ROUND_START (R67) -/
  | temperatureRoundStart
  /-- SENSOR_READ_COMPLETE (R68 to R70), of the sensor being read -/
  | sensorReadComplete (outcome : ReadOutcome)
  /-- SENSOR_READ_TIMEOUT (R68), of the sensor being read -/
  | sensorReadTimeout
  /-- COOLING_PERIOD (R85) -/
  | coolingPeriod
  /-- OVERRIDE_EXPIRY (R96) -/
  | overrideExpiry (zone : ZoneNo)
  /-- TACH_EDGE (R107): a rising edge, this many µs after the uptime's millisecond began -/
  | tachEdge (fan : FanNo) (micros : Fin 1000)
  /-- TACH_TIMEOUT (R109), this many µs after the uptime's millisecond began -/
  | tachTimeout (fan : FanNo) (micros : Fin 1000)
  /-- FAN_EVALUATION (R111) -/
  | fanEvaluation
  /-- INDICATOR_REFRESH (R132) -/
  | indicatorRefresh
  /-- LOADING_DARK_FRAME (R133) -/
  | loadingDarkFrame
  /-- LOCATE_EXPIRY (R130) -/
  | locateExpiry (bay : BayNo)
  /-- POST_WRITE (R141) -/
  | postWrite (port : Port) (value : Word)
  /-- NOTICE_WRITE (R141) -/
  | noticeWrite (port : Port) (value : Word)
  /-- NOTICE_ENABLE_WRITE (R141, R142) -/
  | noticeEnableWrite (port : Port) (value : Word)
  /-- HEARTBEAT (R160): a 32-bit write of any value -/
  | heartbeat (port : Port) (value : Word)
  /-- WINDOW_WRITE (R138, R139): one access inside one 32-bit word of the port's window -/
  | windowWrite (port : Port) (offset : BitVec 15) (data : WriteData)
  /-- SILENCE_TIMER_END (R163) -/
  | silenceTimerEnd (port : Port)
  /-- TAKE_POST (R145, R146) -/
  | takePost
  /-- WAIT_LIMIT_EXPIRY (R151) -/
  | waitLimitExpiry (port : Port) (slot : SlotNo)
  /-- CLAIM_BAYS, order kind 0x01 (R156) -/
  | claimBays (port : Port) (slot : SlotNo) (first count : Byte)
  /-- RELEASE_BAYS, order kind 0x02 (R157) -/
  | releaseBays (port : Port) (slot : SlotNo) (first count : Byte)
  /-- BAY_POWER_ON, order kind 0x03 (R18, R19) -/
  | bayPowerOn (port : Port) (slot : SlotNo) (bay priority profile waitFlag : Byte) (waitLimit : BitVec 16)
  /-- BAY_POWER_OFF, order kind 0x04 (R20) -/
  | bayPowerOff (port : Port) (slot : SlotNo) (bay : Byte)
  /-- CLEAR_BAY_FAULT, order kind 0x05 (R62) -/
  | clearBayFault (port : Port) (slot : SlotNo) (bay : Byte)
  /-- SET_BAY_POLICY, order kind 0x06 (R16) -/
  | setBayPolicy (port : Port) (slot : SlotNo) (first count policy : Byte)
  /-- SET_PROFILE, order kind 0x07 (R46) -/
  | setProfile (port : Port) (slot : SlotNo) (profile : Byte) (surge surgeTime running : BitVec 16)
  /-- SET_INDICATION, order kind 0x08 (R125) -/
  | setIndication (port : Port) (slot : SlotNo) (first count pattern : Byte)
  /-- LOCATE, order kind 0x09 (R129) -/
  | locate (port : Port) (slot : SlotNo) (bay action : Byte) (duration : BitVec 16)
  /-- LOAD_PATTERN, order kind 0x0A (R122) -/
  | loadPattern (port : Port) (slot : SlotNo) (pattern lengthAdd stepCode flags : Byte) (colours stepCodes : Vector Byte 6)
  /-- SET_ZONE_CURVE, order kind 0x0B (R93) -/
  | setZoneCurve (port : Port) (slot : SlotNo) (zone count : Byte) (points : Vector RawPoint 6)
  /-- SET_ZONE_OVERRIDE, order kind 0x0C (R94, R95) -/
  | setZoneOverride (port : Port) (slot : SlotNo) (zone action duty : Byte) (duration : BitVec 16)
  /-- SET_RAIL_LIMIT, order kind 0x0D (R47) -/
  | setRailLimit (port : Port) (slot : SlotNo) (rail : Byte) (dual single : BitVec 16)
  /-- CANCEL_ORDER, order kind 0x0E (R153) -/
  | cancelOrder (port : Port) (slot : SlotNo) (named : Byte)
  /-- RESET_N_GOES_LOW (R183) -/
  | resetNGoesLow
  deriving DecidableEq, Repr

end Sys2Proof
end

