-- ==== Sys2Proof/Decode.lean ====
section
/-! DEFINITION. The decoder over the rows of spec/opcode_table.json that give bits. The table gives bits to none of its 53 rows
(each has "fields": [] and no "fixed"), so no word spells a command. -/

namespace Sys2Proof

/-- The command that the lowest `nbits` bits of `w` spell by the table's bits: none, since no row of the table gives
bits. -/
def decodeTableWord (_nbits _w : Nat) : Option Instr :=
  none

end Sys2Proof
end

