-- ==== Sys2Proof/Config.lean ====
section
/-! DEFINITION. The fixed times and counts of the part, each from the rule its docstring cites. The spec gives every value of
this file, and the description (a part of State, since a start-up replaces it) gives the rest: the model needs no constant
of an implementation and no free value (notes/assumptions/24.md). -/

namespace Sys2Proof

/-- The debounce of a drawer-closed line, in ms (R22). -/
def Config.drawerDebounce : Nat := 50
/-- The debounce of a supply-good line, in ms (R28). -/
def Config.supplyDebounce : Nat := 10
/-- The time in ACTIVE after which the retry count clears, in ms (R61). -/
def Config.retryClearance : Nat := 60000
/-- The interval of temperature rounds, in ms (R67). -/
def Config.roundInterval : Nat := 1000
/-- The time after whose passing a sensor read fails with TIMEOUT, in ms (R68). -/
def Config.readTimeout : Nat := 20
/-- The cooling period, in ms (R84). -/
def Config.coolingInterval : Nat := 1000
/-- The interval of fan evaluations, in ms (R111). -/
def Config.evaluationInterval : Nat := 1000
/-- The grace of a fan after LOADING, in ms (R112). -/
def Config.fanGrace : Nat := 5000
/-- The interval of refreshes and dark frames on the indicator line, in ms (R132, R133). -/
def Config.refreshInterval : Nat := 10
/-- The tach timeout, in µs (R109). -/
def Config.tachTimeout : Nat := 2000000
/-- The evaluations in a row that fail a fan or restore it (R113, R114). -/
def Config.fanVerdicts : Nat := 3
/-- The failures in a row that lose a sensor (R70). -/
def Config.sensorFailures : Nat := 3
/-- The hysteresis of the warn and critical flags, in h°C (R78). -/
def Config.flagHysteresis : Int := 4
/-- The lowest and the highest temperature the part knows, in h°C (scope, "Units"). -/
def Config.minTemp : Int := -80
/-- The highest temperature, in h°C. -/
def Config.maxTemp : Int := 300

end Sys2Proof
end

