-- ==== Sys2Proof/Machine/Types.lean ====
section
/-! DEFINITION. The types of the parts of the state: the modes, the entries of the tables each block owns, and the codes the
records and events name them by. -/

namespace Sys2Proof.Machine

/-! ### Modes and their codes -/

/-- Where the part stands between a reset and normal work (R183 to R185). -/
inductive Phase where
  /-- RESET_N is low. -/
  | inReset
  /-- The description is being read. -/
  | loading
  /-- Normal work. -/
  | running
  deriving DecidableEq, Repr

/-- The last reset kind (R183). -/
inductive ResetKind where
  | powerOn
  | pin
  deriving DecidableEq, Repr

/-- The code of the last reset kind (R168). -/
def ResetKind.code : ResetKind → Nat
  | .powerOn => 0
  | .pin => 1

/-- The description status (R168). -/
inductive DescStatus where
  | valid
  | validClamped
  | defaulted
  deriving DecidableEq, Repr

/-- The code of a description status (R168). -/
def DescStatus.code : DescStatus → Nat
  | .valid => 0
  | .validClamped => 1
  | .defaulted => 2

/-- Why a description was rejected (R168, R178, R180). -/
inductive DescReason where
  | none
  | noResponse
  | badSignature
  | badVersion
  | badLength
  | badChecksum
  | badStructure
  deriving DecidableEq, Repr

/-- The code of a reason (R168). -/
def DescReason.code : DescReason → Nat
  | .none => 0
  | .noResponse => 1
  | .badSignature => 2
  | .badVersion => 3
  | .badLength => 4
  | .badChecksum => 5
  | .badStructure => 6

/-- The six bay states in which a drive is present and settled: the ones a bay can be LEAVING with (R2). -/
inductive Seated where
  | idle
  | queued
  | spinup
  | active
  | cooloff
  | locked
  deriving DecidableEq, Repr

/-- The ten bay states of R5. LEAVING carries its saved state, so a saved state is present exactly in LEAVING. -/
inductive BayState where
  | disabled
  | absent
  | arriving
  | seated (s : Seated)
  | leaving (saved : Seated)
  deriving DecidableEq, Repr

/-- The state code of a seated state (R5). -/
def Seated.code : Seated → Nat
  | .idle => 3
  | .queued => 4
  | .spinup => 5
  | .active => 6
  | .cooloff => 8
  | .locked => 9

/-- The bay state code, 0 to 9 (R5). -/
def BayState.code : BayState → Nat
  | .disabled => 0
  | .absent => 1
  | .arriving => 2
  | .seated s => s.code
  | .leaving _ => 7

/-- The state that timers, faults and charges go by: the state of a seated bay, the saved state of a LEAVING one (R13). -/
def BayState.held : BayState → Option Seated
  | .seated s => some s
  | .leaving s => some s
  | .disabled => none
  | .absent => none
  | .arriving => none

/-- Whether a seated state is one in which the switch is commanded on (R4, R54). -/
def Seated.powered : Seated → Bool
  | .spinup => true
  | .active => true
  | .idle => false
  | .queued => false
  | .cooloff => false
  | .locked => false

/-- Whether a bay is powered: SPINUP or ACTIVE, or LEAVING with saved SPINUP or ACTIVE (R54). -/
def BayState.powered (s : BayState) : Bool :=
  match s.held with
  | some h => h.powered
  | none => false

/-- The same standing with another state in place of the held one: a LEAVING bay stays LEAVING (R13, R20, R60). -/
def BayState.withHeld (s : BayState) (h : Seated) : BayState :=
  match s with
  | .leaving _ => .leaving h
  | .seated _ => .seated h
  | .disabled => .disabled
  | .absent => .absent
  | .arriving => .arriving

/-- Whether a bay is LEAVING. -/
def BayState.isLeaving : BayState → Bool
  | .leaving _ => true
  | .disabled => false
  | .absent => false
  | .arriving => false
  | .seated _ => false

/-- A bay's policy (R15). -/
inductive Policy where
  | auto
  | hold
  deriving DecidableEq, Repr

/-- The code of a policy (R169). -/
def Policy.code : Policy → Nat
  | .auto => 0
  | .hold => 1

/-- The code that names a port, or none, as a number (scope, "Numbering"). -/
def portCode : Option Port → Nat
  | none => 0
  | some .a => 1
  | some .b => 2

/-- The other port. -/
def otherPort : Port → Port
  | .a => .b
  | .b => .a

/-- A colour: a green and an amber level, each 0 to 15. -/
structure Colour where
  green : Fin 16
  amber : Fin 16
  deriving DecidableEq, Repr

/-- The dark colour (0, 0). -/
def Colour.dark : Colour := { green := 0, amber := 0 }

/-! ### The description (section 11.1, R179) -/

/-- What the description gives for one bay. -/
structure BayDesc where
  fitted : Bool
  drawer : Option DrawerNo
  rail : RailNo
  zone : ZoneNo
  policy : Policy
  priority : Fin 4
  profile : ProfileNo
  retryLimit : Nat
  /-- in s -/
  coolOff : Nat
  altPhase : Bool
  deriving DecidableEq, Repr

/-- A power profile (R45): surge draw in ca, surge time in units of 100 ms, running draw in ca. -/
structure Profile where
  surge : Nat
  surgeTime : Nat
  running : Nat
  deriving DecidableEq, Repr

/-- What the description gives for one rail (R27). -/
structure RailDesc where
  dualCeiling : Nat
  singleCeiling : Nat
  base : Nat
  /-- in units of 100 ms -/
  stagger : Nat
  level : Fin 8
  /-- in s -/
  holdOff : Nat
  deriving DecidableEq, Repr

/-- What the description gives for one fan (R105). -/
structure FanDesc where
  fitted : Bool
  zone : ZoneNo
  rail : RailNo
  idle : Nat
  full : Nat
  pulses : Nat
  minRpm : Nat
  deriving DecidableEq, Repr

/-- A point of a zone's curve (R87): a temperature in h°C and a duty. -/
structure CurvePoint where
  temp : Int
  duty : Nat
  deriving DecidableEq, Repr

/-- What the description gives for one zone (R66, R83). -/
structure ZoneDesc where
  curve : List CurvePoint
  drawerFloor : Nat
  bump : Nat
  upStep : Nat
  downStep : Nat
  minDuty : Nat
  driveOffset : Int
  warn : Int
  critical : Int
  deriving DecidableEq, Repr

/-- What the description gives for one sensor (R66). -/
structure SensorDesc where
  fitted : Bool
  address : Nat
  zone : ZoneNo
  deriving DecidableEq, Repr

/-- The contents of a pattern (R120). -/
structure Pattern where
  lengthAdd : Nat
  stepCode : Nat
  stretch : Bool
  blend : Bool
  colour1 : Colour
  colour2 : Colour
  colour3 : Colour
  steps : Vector (Fin 4) 24
  deriving DecidableEq, Repr

/-- The description as the blocks use it (R179 to R182). -/
structure Description where
  bayCount : Nat
  serial : Vector Byte 16
  bays : Vector BayDesc 96
  profiles : Vector Profile 8
  rails : Vector RailDesc 4
  fans : Vector FanDesc 12
  zones : Vector ZoneDesc 4
  sensors : Vector SensorDesc 16
  patterns : Vector Pattern 32
  normalMap : Vector PatternNo 10
  serviceMap : Vector PatternNo 10
  locatePattern : PatternNo
  faultPattern : PatternNo
  /-- in ms -/
  presenceDebounce : Nat
  /-- in s -/
  drawerSettle : Nat
  /-- in s -/
  heartbeatTimeout : Nat
  /-- in s -/
  staleTime : Nat
  failsafeDuty : Nat
  /-- in ms -/
  inrushBlank : Nat
  /-- in µs -/
  blankingTime : Nat
  deriving DecidableEq, Repr

/-! ### The bay controller (R2, R21) -/

/-- The switch-on uptime of a bay: absent, that of an admission, or that of pin-reset reconciliation, to which the inrush
blank does not apply (R55). -/
inductive SwitchOn where
  | absent
  | admitted (at_ : Uptime)
  | reconciled (at_ : Uptime)
  deriving DecidableEq, Repr

/-- A bay entry (R2). The description-derived fields stand in `Description.bays`, the charge in the power sequencer. -/
structure Bay where
  state : BayState
  switch : Bool
  holder : Option Port
  policy : Policy
  profile : ProfileNo
  admittedSurge : Nat
  admittedSurgeTime : Nat
  admittedRunning : Nat
  priority : Fin 4
  retries : Nat
  debounce : Option Uptime
  surgeEnd : Option Uptime
  coolOffEnd : Option Uptime
  activeSince : Option Uptime
  switchOn : SwitchOn
  link : Option (Port × SlotNo)
  driveTemp : Option Int
  shown : Colour
  /-- the uptime of the last state change, published in the bay record (section 1.7) -/
  changed : Uptime
  deriving DecidableEq, Repr

/-- A sampled line with its debounced level and its debounce timer (R22, R28). -/
structure Line where
  level : Bool
  debounce : Option Uptime
  deriving DecidableEq, Repr

/-- The drawer states (R21). -/
inductive DrawerState where
  | closed
  | opened
  | settling
  deriving DecidableEq, Repr

/-- The code of a drawer state (R170). -/
def DrawerState.code : DrawerState → Nat
  | .closed => 0
  | .opened => 1
  | .settling => 2

/-- A drawer entry (R21). -/
structure Drawer where
  state : DrawerState
  line : Line
  settleEnd : Option Uptime
  /-- bit z for zone z -/
  zoneSet : BitVec 4
  changed : Uptime
  deriving DecidableEq, Repr

/-- The levels of BSC_CLK and BSC_LOAD between two frames of the bay scan chains (R4); true is high. -/
structure ChainLines where
  clk : Bool
  load : Bool
  deriving DecidableEq, Repr

/-- Both lines low, as they rest between frames and as they are held while RESET_N is low (R4). -/
def ChainLines.low : ChainLines := { clk := false, load := false }

/-- The bay controller: bay table and claim table, drawer table, the enables the backplane registers last applied, and `chain`,
the clock and the strobe of the scan chains (R2, R4, R21, R155). -/
structure BayController where
  bays : Vector Bay 96
  drawers : Vector Drawer 4
  enables : Vector Bool 96
  chain : ChainLines
  deriving DecidableEq, Repr

/-! ### The power sequencer (R27, R28, R34, R45) -/

/-- The supply state (R28). -/
inductive SupplyState where
  | none
  | single
  | both
  deriving DecidableEq, Repr

/-- The code of a supply state (R168). -/
def SupplyState.code : SupplyState → Nat
  | .none => 0
  | .single => 1
  | .both => 2

/-- A rail entry (R27). The description-derived fields stand in `Description.rails`; the committed draw is the sum of base
draw, bay part and fan part. -/
structure Rail where
  dual : Nat
  single : Nat
  admitLimit : Nat
  trip : Nat
  bayPart : Nat
  fanPart : Nat
  lastAdmission : Option Uptime
  holdOffEnd : Option Uptime
  paused : Bool
  stagger : Bool
  /-- BLOCKED, with the blocking bay when set -/
  blocked : Option BayNo
  overLimit : Bool
  /-- the current on the rail's sense input, in ca rounded up: what the comparator sees -/
  sense : Nat
  deriving DecidableEq, Repr

/-- An entry of the admission queue (R34). -/
structure QueueEntry where
  bay : BayNo
  priority : Fin 4
  deriving DecidableEq, Repr

/-- The power sequencer. `charges` is the last charge handed for each bay (R31). -/
structure PowerSequencer where
  rails : Vector Rail 4
  charges : Vector Nat 96
  lines : Vector Line 2
  supply : SupplyState
  queue : List QueueEntry
  profiles : Vector Profile 8
  deriving DecidableEq, Repr

/-! ### The temperature unit (R66) -/

/-- The sensor states (R66). -/
inductive SensorState where
  | unfitted
  | fresh
  | lost
  deriving DecidableEq, Repr

/-- The code of a sensor state (R169). -/
def SensorState.code : SensorState → Nat
  | .unfitted => 0
  | .fresh => 1
  | .lost => 2

/-- One element of what passes on the sensor line (R68). -/
inductive BusElement where
  | start
  | repeatedStart
  | stop
  /-- a byte the temperature unit sends, and whether the sensor acknowledges it -/
  | send (byte : Byte) (acknowledged : Bool)
  /-- a byte it clocks in, and whether it acknowledges it -/
  | receive (byte : Byte) (acknowledge : Bool)
  | releaseData
  | clockPulse
  deriving DecidableEq, Repr

/-- How a sensor read failed last (R66, R68). -/
inductive FailureKind where
  | none
  | addressNack
  | pointerNack
  | timeout
  deriving DecidableEq, Repr

/-- The code of a failure kind (R169, R175). -/
def FailureKind.code : FailureKind → Nat
  | .none => 0
  | .addressNack => 1
  | .pointerNack => 2
  | .timeout => 3

/-- A sensor entry (R66). -/
structure Sensor where
  state : SensorState
  failures : Nat
  lossLogged : Bool
  value : Option Int
  clamped : Bool
  raw : Int
  lastGood : Option Uptime
  lastFailure : FailureKind
  deriving DecidableEq, Repr

/-- A report sampling entry (R66). -/
structure ReportSample where
  lastCount : Option Byte
  lastChange : Option Uptime
  fresh : Option Int
  deriving DecidableEq, Repr

/-- The hottest source of a zone (R76). -/
inductive Hottest where
  | none
  | sensor (n : SensorNo)
  | bay (b : BayNo)
  deriving DecidableEq, Repr

/-- The code of a hottest source's kind (R169). -/
def Hottest.kindCode : Hottest → Nat
  | .none => 0
  | .sensor _ => 1
  | .bay _ => 2

/-- The number of a hottest source (R169), 0 for none (DESIGN CHOICE, unsafe: notes/assumptions/37.md). -/
def Hottest.number : Hottest → Nat
  | .none => 0
  | .sensor n => n.val
  | .bay b => b.val

/-- A zone's sight (R66). -/
inductive Sight where
  | unknown
  | seeing
  | blind
  deriving DecidableEq, Repr

/-- The code of a sight (R169). -/
def Sight.code : Sight → Nat
  | .unknown => 0
  | .seeing => 1
  | .blind => 2

/-- The five temperature fields of a zone (R66, R80). -/
structure ZoneSense where
  temp : Option Int
  hottest : Hottest
  sight : Sight
  warn : Bool
  critical : Bool
  deriving DecidableEq, Repr

/-- The temperature unit. `reading` is the sensor whose read is under way and the uptime at which it started, present
exactly while a round is under way; `nextRound` the uptime at which the next round is due (R67, R68). -/
structure TemperatureUnit where
  sensors : Vector Sensor 16
  reportsA : Vector ReportSample 96
  reportsB : Vector ReportSample 96
  zones : Vector ZoneSense 4
  reading : Option (SensorNo × Uptime)
  nextRound : Uptime
  deriving DecidableEq, Repr

/-! ### The cooling controller (R83) -/

/-- Where a demand came from (R86). -/
inductive DemandSource where
  | curve
  | override
  | failsafe
  deriving DecidableEq, Repr

/-- The code of a demand source (R169). -/
def DemandSource.code : DemandSource → Nat
  | .curve => 0
  | .override => 1
  | .failsafe => 2

/-- A zone override (R94). -/
structure Override where
  duty : Nat
  endAt : Uptime
  port : Port
  deriving DecidableEq, Repr

/-- A zone entry (R83). The other description-derived fields stand in `Description.zones`. -/
structure Zone where
  curve : List CurvePoint
  override : Option Override
  /-- the temperature fields as last handed by the temperature unit -/
  sense : ZoneSense
  demand : Nat
  source : DemandSource
  failedFans : Nat
  drawerFloorInForce : Bool
  failsafeFloorInForce : Bool
  target : Nat
  duty : Nat
  lastPeriod : Option Uptime
  deriving DecidableEq, Repr

/-- The cooling controller. `pwm` is the duty each fan PWM output is driven at; `nextPeriod` the uptime at which the next
cooling period is due (R84, R97). -/
structure CoolingController where
  zones : Vector Zone 4
  pwm : Vector Nat 12
  nextPeriod : Uptime
  deriving DecidableEq, Repr

/-! ### The fan monitor (R105) -/

/-- The fan states (R110). -/
inductive FanState where
  | unfitted
  | starting
  | running
  | failed
  deriving DecidableEq, Repr

/-- The code of a fan state (R110). -/
def FanState.code : FanState → Nat
  | .unfitted => 0
  | .starting => 1
  | .running => 2
  | .failed => 3

/-- A fan's capture (R105, R106). TIMING holds the moment of the last accepted edge, an uptime and the µs into its
millisecond, from which the capture timer is counted. -/
inductive Capture where
  | waiting
  | timing (ms : Uptime) (micros : Fin 1000)
  deriving DecidableEq, Repr

/-- A fan entry (R105). The description-derived fields stand in `Description.fans`. -/
structure Fan where
  state : FanState
  capture : Capture
  period : Option Nat
  rpm : Nat
  count : Nat
  lastEvaluation : Option Uptime
  duty : Nat
  charge : Nat
  deriving DecidableEq, Repr

/-- The fan monitor. `nextEvaluation` is the uptime at which the next evaluation is due (R111). -/
structure FanMonitor where
  fans : Vector Fan 12
  nextEvaluation : Uptime
  deriving DecidableEq, Repr

/-! ### The indicator engine (R120, R124, R125, R128, R129) -/

/-- A locate entry (R129). -/
structure Locate where
  on : Bool
  endAt : Option Uptime
  deriving DecidableEq, Repr

/-- The levels of IND_CLK, IND_DATA and IND_LATCH between two frames (R133); true is high. -/
structure IndicatorLines where
  clk : Bool
  data : Bool
  latch : Bool
  deriving DecidableEq, Repr

/-- The three lines low, as they are held while RESET_N is low (R133). -/
def IndicatorLines.low : IndicatorLines := { clk := false, data := false, latch := false }

/-- The indicator engine. `lights` is what the LED drivers last latched (R133); `lines` the levels of the indicator line between
frames; `nextFrame` the uptime at which the next frame is due (R132, R133). The maps and the urgent pattern numbers stand in
the description. -/
structure IndicatorEngine where
  patterns : Vector Pattern 32
  pendingPatterns : Vector (Option Pattern) 32
  layersA : Vector PatternNo 96
  layersB : Vector PatternNo 96
  locates : Vector Locate 96
  lights : Vector Colour 96
  lines : IndicatorLines
  nextFrame : Uptime
  deriving DecidableEq, Repr

/-! ### Port units, order intake, event writer, description loader (R140, R147, R160, R173, R183) -/

/-- The port states (R160). -/
inductive PortState where
  | awaiting
  | live
  | silent
  deriving DecidableEq, Repr

/-- The code of a port state (R168). -/
def PortState.code : PortState → Nat
  | .awaiting => 0
  | .live => 1
  | .silent => 2

/-- A port unit: its registers, port state, silence timer, the heartbeat recorded during LOADING (R140, R160, R162), and
how many message interrupts it has sent since reset (R142). -/
structure PortUnit where
  post : Word
  notice : Word
  enable : Word
  state : PortState
  silenceEnd : Option Uptime
  heartbeatSeen : Bool
  messages : Nat
  deriving DecidableEq, Repr

/-- What an order context holds for a lingering order (R147): the wait limit in s and the uptime at which it expires, if any. -/
structure Linger where
  limit : Nat
  expiry : Option Uptime
  deriving DecidableEq, Repr

/-- An order context (R147), with the copy of the tag (R143). -/
structure Context where
  port : Port
  slot : SlotNo
  kind : Byte
  tag : BitVec 16
  args : Vector Byte 20
  takenAt : Uptime
  linger : Option Linger
  deriving DecidableEq, Repr

/-- Order intake: the contexts of the taken orders, and whose turn it is (R146, R147). -/
structure OrderIntake where
  contexts : List Context
  turn : Port
  deriving DecidableEq, Repr

/-- The event writer: the sequence number of the latest event, 0 while the list is empty (R172 to R174). -/
structure EventWriter where
  latest : BitVec 32
  deriving DecidableEq, Repr

/-- The description loader: phase, description in force, its status and reason, the two values only a power-on reset
clears (R183), the uptime at which LOADING ended, from which epoch, periods, rounds and evaluations count (R185), and `csN`, the
level of DSC_CS_N, true being high (R178). -/
structure DescLoader where
  phase : Phase
  resetKind : ResetKind
  warmRestarts : Nat
  status : DescStatus
  reason : DescReason
  desc : Description
  epoch : Uptime
  csN : Bool
  deriving DecidableEq, Repr

/-- The exchange memory (R137): address and byte, addresses strictly rising, no entry 0, which is what an address
without an entry reads as. -/
abbrev Memory := List Host.Cell

end Sys2Proof.Machine
end

