-- ==== Sys2Proof/Machine/Defaults.lean ====
section
/-! DEFINITION. The default description (R182) and the built-in pattern set (R136). -/

namespace Sys2Proof.Machine

/-- A pattern of 8 steps without stretch or blend, as all built-in patterns but 8 are; places 8 to 23 hold 0 (R136). -/
def builtInPattern (stepCode : Nat) (c1 c2 c3 : Colour) (steps : List (Fin 4)) : Pattern :=
  { lengthAdd := 0, stepCode := stepCode, stretch := false, blend := false, colour1 := c1, colour2 := c2, colour3 := c3,
    steps := Vector.ofFn fun i => steps.getD i.val 0 }

/-- Pattern 0, fixed: transparent at every step (R120). -/
def patternZero : Pattern :=
  builtInPattern 1 Colour.dark Colour.dark Colour.dark []

/-- An unused built-in pattern, entries 9 to 31 (R136). -/
def patternUnused : Pattern :=
  builtInPattern 20 Colour.dark Colour.dark Colour.dark []

/-- Full green. -/
def fullGreen : Colour := { green := 15, amber := 0 }
/-- Full amber. -/
def fullAmber : Colour := { green := 0, amber := 15 }

/-- The built-in pattern set (R136), entry by entry. -/
def builtInPatterns : Vector Pattern 32 :=
  Vector.ofFn fun i =>
    match i.val with
    | 0 => patternZero
    | 1 => builtInPattern 20 fullGreen Colour.dark Colour.dark [1, 1, 1, 1, 1, 1, 1, 1]
    | 2 => builtInPattern 20 fullAmber Colour.dark Colour.dark [1, 1, 1, 1, 1, 1, 1, 1]
    | 3 => builtInPattern 5 fullGreen Colour.dark Colour.dark [1, 1, 1, 1, 0, 0, 0, 0]
    | 4 => builtInPattern 2 fullAmber Colour.dark Colour.dark [1, 2, 1, 2, 1, 2, 1, 2]
    | 5 => builtInPattern 4 fullGreen fullAmber Colour.dark [1, 1, 2, 2, 1, 1, 2, 2]
    | 6 => builtInPattern 20 { green := 4, amber := 0 } Colour.dark Colour.dark [1, 1, 1, 1, 1, 1, 1, 1]
    | 7 => builtInPattern 1 fullGreen Colour.dark Colour.dark [1, 1, 0, 0, 1, 1, 0, 0]
    | 8 =>
      { builtInPattern 2 { green := 0, amber := 4 } { green := 0, amber := 10 } fullAmber [1, 2, 3, 3, 2, 1, 0, 0] with
        stretch := true }
    | _ => patternUnused

/-- The built-in normal map, by state code 0 to 9 (R136). -/
def builtInNormalMap : Vector PatternNo 10 := #v[0, 0, 7, 6, 3, 7, 1, 8, 2, 2]
/-- The built-in service map, by state code 0 to 9 (R136). -/
def builtInServiceMap : Vector PatternNo 10 := #v[0, 8, 7, 6, 6, 7, 1, 8, 2, 2]

/-- The default entry of bay b (R182): drawer, rail and zone b ÷ 24. -/
def defaultBay (b : BayNo) : BayDesc :=
  { fitted := true, drawer := some (Fin.ofNat 4 (b.val / 24)), rail := Fin.ofNat 4 (b.val / 24),
    zone := Fin.ofNat 4 (b.val / 24), policy := .hold, priority := 1, profile := 0, retryLimit := 2, coolOff := 10,
    altPhase := false }

/-- The default profile (R182, R45). -/
def defaultProfile : Profile := { surge := 250, surgeTime := 80, running := 80 }

/-- The default rail (R182). -/
def defaultRail : RailDesc :=
  { dualCeiling := 2400, singleCeiling := 1200, base := 100, stagger := 20, level := 5, holdOff := 2 }

/-- The default entry of fan f (R182): zone and rail f ÷ 3. -/
def defaultFan (f : FanNo) : FanDesc :=
  { fitted := true, zone := Fin.ofNat 4 (f.val / 3), rail := Fin.ofNat 4 (f.val / 3), idle := 20, full := 300, pulses := 2,
    minRpm := 1000 }

/-- The default curve (section 5.1). -/
def defaultCurve : List CurvePoint :=
  [{ temp := 60, duty := 64 }, { temp := 80, duty := 128 }, { temp := 100, duty := 255 }]

/-- The default zone (section 5.1, R182). -/
def defaultZone : ZoneDesc :=
  { curve := defaultCurve, drawerFloor := 160, bump := 32, upStep := 255, downStep := 8, minDuty := 64, driveOffset := 10,
    warn := 100, critical := 116 }

/-- The default sensor: not fitted (R182). The address and zone of an unfitted sensor are the model's choice: the lowest
address and zone 0 (DESIGN CHOICE, unsafe: notes/assumptions/2.md). -/
def defaultSensor : SensorDesc := { fitted := false, address := 0x08, zone := 0 }

/-- The default description (R182). -/
def defaultDescription : Description :=
  { bayCount := 96
    serial := Vector.replicate 16 0
    bays := Vector.ofFn defaultBay
    profiles := Vector.replicate 8 defaultProfile
    rails := Vector.replicate 4 defaultRail
    fans := Vector.ofFn defaultFan
    zones := Vector.replicate 4 defaultZone
    sensors := Vector.replicate 16 defaultSensor
    patterns := builtInPatterns
    normalMap := builtInNormalMap
    serviceMap := builtInServiceMap
    locatePattern := 5
    faultPattern := 4
    presenceDebounce := 250
    drawerSettle := 2
    heartbeatTimeout := 10
    staleTime := 60
    failsafeDuty := 255
    inrushBlank := 20
    blankingTime := 500 }

end Sys2Proof.Machine
end

