-- ==== Sys2Proof/Machine/State.lean ====
section
/-! DEFINITION. The state of the part, each block's own state under its name, the queue of waiting commands, and the state
after a power-on reset. -/

namespace Sys2Proof.Machine

/-- The state of the part. A block that needs another block's state reads it there or asks the owner for a change (scope,
"Blocks"). -/
structure State where
  /-- the time base's count (R1) -/
  uptime : Uptime
  dl : DescLoader
  bc : BayController
  ps : PowerSequencer
  tu : TemperatureUnit
  cc : CoolingController
  fm : FanMonitor
  ie : IndicatorEngine
  /-- port unit A -/
  pa : PortUnit
  /-- port unit B -/
  pb : PortUnit
  oi : OrderIntake
  ew : EventWriter
  /-- the exchange memory -/
  xm : Memory
  /-- the commands that wait, first in, first out (the model's own) -/
  pending : List Instr
  deriving DecidableEq, Repr

/-- Why the part stops with a fault: never. The spec gives every command an effect in every state, so no constructor
is needed. -/
inductive Fault where
  deriving DecidableEq, Repr

/-- Why a command is refused. -/
inductive Refusal where
  /-- Raised by `exec` for a command whose meaning is not written yet: none is left. Safe: the model stops where the part
  goes on. -/
  | notModelled (mnemonic : String)
  deriving DecidableEq, Repr

/-- A bay entry after either reset (R2), with the description's defaults; a pin reset keeps the switch field. -/
def resetBay (b : BayNo) : Bay :=
  { state := .absent, switch := false, holder := none, policy := (defaultBay b).policy, profile := (defaultBay b).profile,
    admittedSurge := 0, admittedSurgeTime := 0, admittedRunning := 0, priority := (defaultBay b).priority, retries := 0,
    debounce := none, surgeEnd := none, coolOffEnd := none, activeSince := none, switchOn := .absent, link := none,
    driveTemp := none, shown := Colour.dark, changed := 0 }

/-- A drawer entry after either reset (R22): CLOSED, high, timers stopped. -/
def resetDrawer : Drawer :=
  { state := .closed, line := { level := true, debounce := none }, settleEnd := none, zoneSet := 0, changed := 0 }

/-- A rail entry after either reset (R27), with the description's defaults and the supply state BOTH: the trip level is
floor(2400 × 110 / 100). -/
def resetRail : Rail :=
  { dual := defaultRail.dualCeiling, single := defaultRail.singleCeiling, admitLimit := defaultRail.dualCeiling,
    trip := defaultRail.dualCeiling * 110 / 100, bayPart := 0, fanPart := 0, lastAdmission := none, holdOffEnd := none,
    paused := false, stagger := false, blocked := none, overLimit := false, sense := 0 }

/-- A sensor entry after either reset (R66): the default description fits none. -/
def resetSensor : Sensor :=
  { state := .unfitted, failures := 0, lossLogged := false, value := none, clamped := false, raw := 0, lastGood := none,
    lastFailure := .none }

/-- A report sampling entry after either reset (R66). -/
def resetReport : ReportSample := { lastCount := none, lastChange := none, fresh := none }

/-- The temperature fields of a zone after either reset (R66). -/
def resetSense : ZoneSense := { temp := none, hottest := .none, sight := .unknown, warn := false, critical := false }

/-- A zone entry after either reset (R83). -/
def resetZone : Zone :=
  { curve := defaultZone.curve, override := none, sense := resetSense, demand := 255, source := .failsafe, failedFans := 0,
    drawerFloorInForce := false, failsafeFloorInForce := false, target := 255, duty := 255, lastPeriod := none }

/-- A fan entry after either reset (R105). -/
def resetFan (f : FanNo) : Fan :=
  { state := .starting, capture := .waiting, period := none, rpm := 0, count := 0, lastEvaluation := none, duty := 255,
    charge := (defaultFan f).full }

/-- A port unit after either reset (R140, R162). -/
def resetPort : PortUnit :=
  { post := 0, notice := 0, enable := 0, state := .awaiting, silenceEnd := none, heartbeatSeen := false, messages := 0 }

/-- The part right after the release of a power-on reset: LOADING begins at uptime 0 (R183, R184). The exchange memory is
cleared (R138), the read of the image has begun with DSC_CS_N low (R178), and the live record of the identity block has had its first rewrite: update count 2 and supply state BOTH,
code 2, its other bytes being 0 (R168; DEDUCED, unsafe: notes/assumptions/5.md). What the spec gives no reset value for,
and what it gives a value for only at the end of LOADING (the profile table of R45, the locate and the fault pattern of R128,
the maps, the timing values), holds the model's value (DESIGN CHOICE, unsafe: notes/assumptions/8.md). -/
def State.reset : State :=
  { uptime := 0
    dl := { phase := .loading, resetKind := .powerOn, warmRestarts := 0, status := .valid, reason := .none,
            desc := defaultDescription, epoch := 0, csN := false }
    bc := { bays := Vector.ofFn resetBay, drawers := Vector.replicate 4 resetDrawer, enables := Vector.replicate 96 false,
            chain := ChainLines.low }
    ps := { rails := Vector.replicate 4 resetRail, charges := Vector.replicate 96 0,
            lines := Vector.replicate 2 { level := true, debounce := none }, supply := .both, queue := [],
            profiles := Vector.replicate 8 defaultProfile }
    tu := { sensors := Vector.replicate 16 resetSensor, reportsA := Vector.replicate 96 resetReport,
            reportsB := Vector.replicate 96 resetReport, zones := Vector.replicate 4 resetSense, reading := none,
            nextRound := 0 }
    cc := { zones := Vector.replicate 4 resetZone, pwm := Vector.replicate 12 255, nextPeriod := 0 }
    fm := { fans := Vector.ofFn resetFan, nextEvaluation := 0 }
    ie := { patterns := builtInPatterns, pendingPatterns := Vector.replicate 32 none, layersA := Vector.replicate 96 0,
            layersB := Vector.replicate 96 0, locates := Vector.replicate 96 { on := false, endAt := none },
            lights := Vector.replicate 96 Colour.dark, lines := IndicatorLines.low, nextFrame := 0 }
    pa := resetPort
    pb := resetPort
    oi := { contexts := [], turn := .a }
    ew := { latest := 0 }
    xm := [(0x00B0, 2), (0x00B6, 2)]
    pending := [] }

end Sys2Proof.Machine
end

