-- ==== Sys2Proof/Machine/Flags.lean ====
section
/-! DEFINITION. The flag bits: the bits of NOTICE and its masks (R140, R177), and the bytes of the records that pack several
flags or codes (R169). -/

namespace Sys2Proof.Machine

/-- A Bool as a bit. -/
def bit (v : Bool) : Nat := if v then 1 else 0

/-- Bit n of a port register. -/
def registerBit (n : Nat) : Word := BitVec.ofNat 32 (2 ^ n)

/-- The bit of slot n in POST and in NOTICE (scope, "Registers"). -/
def slotBit (n : SlotNo) : Word := registerBit n.val

/-- EVENTS, bit 24 of NOTICE. -/
def noticeEvents : Word := registerBit 24
/-- BAYS, bit 25 of NOTICE. -/
def noticeBays : Word := registerBit 25
/-- COOLING, bit 26 of NOTICE. -/
def noticeCooling : Word := registerBit 26
/-- POWER, bit 27 of NOTICE. -/
def noticePower : Word := registerBit 27
/-- PEER, bit 28 of NOTICE. -/
def noticePeer : Word := registerBit 28
/-- START, bit 29 of NOTICE. -/
def noticeStart : Word := registerBit 29

/-- The bits of POST that stand for slots: 0 to 23 (R140). -/
def postMask : Word := 0x00FFFFFF
/-- The bits of NOTICE and NOTICE_ENABLE that exist: 0 to 29 (R140). -/
def noticeMask : Word := 0x3FFFFFFF

/-- Whether a port unit's NOTICE AND NOTICE_ENABLE is non-zero (R142). -/
def PortUnit.asserted (p : PortUnit) : Bool := p.notice &&& p.enable != 0

/-- Byte 39 of the rail record: PAUSED, STAGGER, BLOCKED, OVER_LIMIT in bits 0 to 3 (R169). -/
def railFlags (r : Rail) : Nat :=
  bit r.paused + 2 * bit r.stagger + 4 * bit r.blocked.isSome + 8 * bit r.overLimit

/-- Byte 26 of the zone record: override active in bit 0, the setting port in bits 1 and 2 (R169). -/
def overrideFlags (o : Option Override) : Nat :=
  match o with
  | some v => 1 + 2 * portCode (some v.port)
  | none => 0

/-- Byte 36 of the zone record: sight in bits 0 and 1, warn in bit 2, critical in bit 3 (R169). -/
def senseFlags (z : ZoneSense) : Nat := z.sight.code + 4 * bit z.warn + 8 * bit z.critical

/-- Byte 40 of the zone record: the floors in force (R169). -/
def floorFlags (z : Zone) : Nat := bit z.drawerFloorInForce + 2 * bit z.failsafeFloorInForce

/-- Byte 4 of the sensor record: state in bits 0 and 1, consecutive failures in bits 2 and 3, last failure kind in bits 4 and
5, fitted in bit 6, clamp flag in bit 7 (R169). -/
def sensorFlags (fitted : Bool) (n : Sensor) : Nat :=
  n.state.code + 4 * n.failures + 16 * n.lastFailure.code + 64 * bit fitted + 128 * bit n.clamped

/-- Byte 2 of the fan record: state in bits 0 and 1, consecutive count in bits 2 and 3 (R169). -/
def fanFlags (f : Fan) : Nat := f.state.code + 4 * f.count

end Sys2Proof.Machine
end

