-- ==== Sys2Proof/Machine/Ops.lean ====
section
/-! DEFINITION. The operations every block works by: uptime comparisons, bytes, the exchange memory, the reads and updates of
the tables, notices, records and the event list. -/

namespace Sys2Proof.Machine

/-! ### Uptimes (R1) -/

/-- Whether uptime u is at or after e: their difference modulo 2³² is not negative as a signed number (R1). -/
def uptimeReached (u e : Uptime) : Bool := !(u - e).msb

/-- An uptime plus a duration in ms, modulo 2³² (R1). -/
def uptimeAfter (u : Uptime) (ms : Nat) : Uptime := u + BitVec.ofNat 32 ms

/-- Whether a timer is running and its end is reached. -/
def timerDue (u : Uptime) (t : Option Uptime) : Bool :=
  match t with
  | some e => uptimeReached u e
  | none => false

/-! ### Bytes (scope, "Byte order") -/

/-- The low byte of a number. -/
def byteOf (n : Nat) : Byte := BitVec.ofNat 8 n

/-- Two bytes, little-endian. -/
def le16 (n : Nat) : List Byte := [byteOf n, byteOf (n / 256)]
/-- Three bytes, little-endian. -/
def le24 (n : Nat) : List Byte := [byteOf n, byteOf (n / 256), byteOf (n / 65536)]
/-- Four bytes, little-endian. -/
def le32 (n : Nat) : List Byte := [byteOf n, byteOf (n / 256), byteOf (n / 65536), byteOf (n / 16777216)]
/-- A signed number as its 16-bit pattern. -/
def signed16 (i : Int) : Nat := (BitVec.ofInt 16 i).toNat
/-- Saturating at the largest 16-bit value (R176). -/
def sat16 (n : Nat) : Nat := min n 65535
/-- A temperature's 16-bit pattern, 0x8000 when absent (R169). -/
def tempCode (t : Option Int) : Nat :=
  match t with
  | some v => signed16 v
  | none => 0x8000
/-- An uptime or timer end as a number, 0 when absent or stopped (R169). -/
def uptimeCode (t : Option Uptime) : Nat :=
  match t with
  | some u => u.toNat
  | none => 0
/-- The number that bytes stand for, the first the least significant. -/
def leNat (bs : List Byte) : Nat :=
  match bs with
  | [] => 0
  | v :: vs => v.toNat + 256 * leNat vs
/-- n zero bytes. -/
def zeros (n : Nat) : List Byte := List.replicate n 0

/-! ### The exchange memory (R137, R138) -/

/-- The byte at an address: 0 where nothing is listed, since either reset clears the memory (R138). -/
def Memory.read (m : Memory) (x : Nat) : Byte :=
  match m with
  | [] => 0
  | c :: cs => if c.1 = x then c.2 else Memory.read cs x

/-- The non-zero bytes of a run that starts at an address, as entries. -/
def Memory.cells (a : Nat) (bs : List Byte) : List Host.Cell :=
  match bs with
  | [] => []
  | v :: vs => if v = 0 then Memory.cells (a + 1) vs else (a, v) :: Memory.cells (a + 1) vs

/-- Store a run of bytes from an address on, keeping the canonical form. -/
def Memory.write (m : Memory) (a : Nat) (bs : List Byte) : Memory :=
  m.filter (fun c => decide (c.1 < a)) ++ (Memory.cells a bs ++ m.filter (fun c => decide (a + bs.length ≤ c.1)))

/-- The n bytes from an address on. -/
def Memory.readRun (m : Memory) (a n : Nat) : List Byte := (List.range n).map fun i => Memory.read m (a + i)

/-- The canonical form: addresses strictly rising, and no entry equal to what an unlisted address reads as. -/
def Memory.wf (m : Memory) : Bool :=
  match m with
  | [] => true
  | c :: cs => c.2 != 0 && cs.all (fun d => decide (c.1 < d.1)) && Memory.wf cs

/-! ### Reading and updating the tables -/

/-- The phase of the part. -/
def State.phase (s : State) : Phase := s.dl.phase
/-- Bay b's entry. -/
def State.bay (s : State) (b : BayNo) : Bay := s.bc.bays[b]
/-- What the description gives for bay b. -/
def State.bayDesc (s : State) (b : BayNo) : BayDesc := s.dl.desc.bays[b]
/-- Drawer d's entry. -/
def State.drawer (s : State) (d : DrawerNo) : Drawer := s.bc.drawers[d]
/-- Rail r's entry. -/
def State.rail (s : State) (r : RailNo) : Rail := s.ps.rails[r]
/-- What the description gives for rail r. -/
def State.railDesc (s : State) (r : RailNo) : RailDesc := s.dl.desc.rails[r]
/-- The last charge handed for bay b (R31). -/
def State.charge (s : State) (b : BayNo) : Nat := s.ps.charges[b]
/-- Profile p's entry (R45). -/
def State.profile (s : State) (p : ProfileNo) : Profile := s.ps.profiles[p]
/-- Sensor n's entry. -/
def State.sensor (s : State) (n : SensorNo) : Sensor := s.tu.sensors[n]
/-- What the description gives for sensor n. -/
def State.sensorDesc (s : State) (n : SensorNo) : SensorDesc := s.dl.desc.sensors[n]
/-- The temperature unit's entry of zone z. -/
def State.sense (s : State) (z : ZoneNo) : ZoneSense := s.tu.zones[z]
/-- The cooling controller's entry of zone z. -/
def State.zone (s : State) (z : ZoneNo) : Zone := s.cc.zones[z]
/-- What the description gives for zone z. -/
def State.zoneDesc (s : State) (z : ZoneNo) : ZoneDesc := s.dl.desc.zones[z]
/-- Fan f's entry. -/
def State.fan (s : State) (f : FanNo) : Fan := s.fm.fans[f]
/-- What the description gives for fan f. -/
def State.fanDesc (s : State) (f : FanNo) : FanDesc := s.dl.desc.fans[f]
/-- Port x's unit. -/
def State.port (s : State) (x : Port) : PortUnit :=
  match x with
  | .a => s.pa
  | .b => s.pb

/-- Replace bay b's entry. -/
def State.setBay (s : State) (b : BayNo) (v : Bay) : State := { s with bc := { s.bc with bays := s.bc.bays.set b v } }
/-- Replace drawer d's entry. -/
def State.setDrawer (s : State) (d : DrawerNo) (v : Drawer) : State :=
  { s with bc := { s.bc with drawers := s.bc.drawers.set d v } }
/-- Replace rail r's entry. -/
def State.setRail (s : State) (r : RailNo) (v : Rail) : State := { s with ps := { s.ps with rails := s.ps.rails.set r v } }
/-- Replace the charge held for bay b. -/
def State.setCharge (s : State) (b : BayNo) (v : Nat) : State :=
  { s with ps := { s.ps with charges := s.ps.charges.set b v } }
/-- Replace the admission queue. -/
def State.setQueue (s : State) (q : List QueueEntry) : State := { s with ps := { s.ps with queue := q } }
/-- Replace sensor n's entry. -/
def State.setSensor (s : State) (n : SensorNo) (v : Sensor) : State :=
  { s with tu := { s.tu with sensors := s.tu.sensors.set n v } }
/-- Replace the temperature unit's entry of zone z. -/
def State.setSense (s : State) (z : ZoneNo) (v : ZoneSense) : State :=
  { s with tu := { s.tu with zones := s.tu.zones.set z v } }
/-- Replace which read is under way. -/
def State.setReading (s : State) (v : Option (SensorNo × Uptime)) : State := { s with tu := { s.tu with reading := v } }
/-- Replace the cooling controller's entry of zone z. -/
def State.setZone (s : State) (z : ZoneNo) (v : Zone) : State := { s with cc := { s.cc with zones := s.cc.zones.set z v } }
/-- Replace fan f's entry. -/
def State.setFan (s : State) (f : FanNo) (v : Fan) : State := { s with fm := { s.fm with fans := s.fm.fans.set f v } }
/-- Replace port x's unit. -/
def State.setPort (s : State) (x : Port) (v : PortUnit) : State :=
  match x with
  | .a => { s with pa := v }
  | .b => { s with pb := v }
/-- Replace the contexts of order intake. -/
def State.setContexts (s : State) (cs : List Context) : State := { s with oi := { s.oi with contexts := cs } }
/-- Store a run of bytes in the exchange memory. -/
def State.store (s : State) (a : Nat) (bs : List Byte) : State := { s with xm := Memory.write s.xm a bs }

/-- Do one piece of work for each element of a list, in its order. -/
def forEach {α : Type} (l : List α) (f : α → State → State) (s : State) : State :=
  match l with
  | [] => s
  | x :: xs => forEach xs f (f x s)

/-- For every bay in ascending number. -/
def forBays (f : BayNo → State → State) (s : State) : State := forEach (List.finRange 96) f s
/-- For every rail, zone or drawer in ascending number. -/
def forFour (f : Fin 4 → State → State) (s : State) : State := forEach (List.finRange 4) f s

/-! ### Notices and the message interrupt (R141, R142, R177) -/

/-- Set bits of a port's NOTICE; the message goes out when NOTICE AND NOTICE_ENABLE goes from zero to non-zero (R142). -/
def PortUnit.notify (p : PortUnit) (bits : Word) : PortUnit :=
  { p with
    notice := p.notice ||| bits
    messages :=
      if p.asserted = false ∧ ({ p with notice := p.notice ||| bits } : PortUnit).asserted = true then p.messages + 1
      else p.messages }

/-- Set bits of one port's NOTICE. -/
def noticePort (x : Port) (bits : Word) (s : State) : State := s.setPort x ((s.port x).notify bits)

/-- Set a summary bit of NOTICE on both ports, whatever their states (R177). -/
def noticeBoth (bits : Word) (s : State) : State := { s with pa := s.pa.notify bits, pb := s.pb.notify bits }

/-! ### Records and their update counts (R167) -/

/-- The update count of the record at a place. -/
def updateCount (s : State) (base : Nat) : Nat := leNat (Memory.readRun s.xm base 2)

/-- One rewrite of the record at a place: the bytes after its update count, and the count raised by 1 twice (R167). -/
def putRecord (base : Nat) (body : List Byte) (s : State) : State :=
  s.store base (le16 ((updateCount s base + 2) % 65536) ++ body)

/-- Whether the record at a place holds other bytes after its update count. -/
def recordDiffers (base : Nat) (body : List Byte) (s : State) : Bool :=
  Memory.readRun s.xm (base + 2) body.length != body

/-! ### The event list (R172 to R174) -/

/-- An event as its block hands it (R173, R176); `detail` is bytes 12 to 15 of its entry. -/
structure Event where
  kind : Nat
  port : Option Port
  subject : Nat
  sense : Bool
  detail : List Byte
  deriving DecidableEq, Repr

/-- The place of the event list header (R137). -/
def eventHeaderBase : Nat := 0x0E00
/-- The place of the event entries (R137). -/
def eventListBase : Nat := 0x2000

/-- The sequence number after s: 0xFFFFFFFF is followed by 1 (R174). -/
def nextSequence (s : BitVec 32) : BitVec 32 := if s = 0xFFFFFFFF then 1 else s + 1

/-- The list index of the event with sequence number s (R174). -/
def eventIndex (s : BitVec 32) : Nat := (s.toNat - 1) % 256

/-- The 16 bytes of an event's entry (R172). -/
def eventEntry (q : BitVec 32) (u : Uptime) (e : Event) : List Byte :=
  le32 q.toNat ++ le32 u.toNat ++ [byteOf e.kind, byteOf (portCode e.port), byteOf e.subject, byteOf (bit e.sense)] ++ e.detail

/-- Append an event: the entry, then the header with its next index and latest sequence number, then EVENTS on both ports
(R173). -/
def logEvent (e : Event) (s : State) : State :=
  let q := nextSequence s.ew.latest
  let s := { s with ew := { latest := q } }
  let s := s.store (eventListBase + 16 * eventIndex q) (eventEntry q s.uptime e)
  let s := putRecord eventHeaderBase (le16 (eventIndex (nextSequence q)) ++ le32 q.toNat) s
  noticeBoth noticeEvents s

/-- Several events, in the order in which they are handed (R173). -/
def logEvents (es : List Event) (s : State) : State := forEach es logEvent s

end Sys2Proof.Machine
end

