-- ==== Sys2Proof/Machine/Events.lean ====
section
/-! DEFINITION. The event kinds: code, port, subject, sense and detail of each, as the kind table of R175 gives them. -/

namespace Sys2Proof.Machine

/-- The subject number of an event that has none (R172). -/
def noSubject : Nat := 0xFF

/-- START (R185). -/
def eventStart (status : DescStatus) (reason : DescReason) (kind : ResetKind) (warm : Nat) : Event :=
  { kind := 0x01, port := none, subject := noSubject, sense := false,
    detail := [byteOf status.code, byteOf reason.code, byteOf kind.code, byteOf warm] }

/-- PORT_SILENT (R163). -/
def eventPortSilent (x : Port) (claims orders : Nat) : Event :=
  { kind := 0x02, port := some x, subject := noSubject, sense := false, detail := [byteOf claims, byteOf orders, 0, 0] }

/-- PORT_LIVE (R160). -/
def eventPortLive (x : Port) (left : PortState) : Event :=
  { kind := 0x03, port := some x, subject := noSubject, sense := false, detail := [byteOf left.code, 0, 0, 0] }

/-- STRAY_POST (R145). -/
def eventStrayPost (x : Port) (slot : SlotNo) (found : Byte) (taken : Bool) : Event :=
  { kind := 0x04, port := some x, subject := slot.val, sense := false, detail := [found, byteOf (bit taken), 0, 0] }

/-- INSERTED (R9); the drawer of a bay without one is 0xFF, the code R169 gives it in a record (notes/assumptions/37.md). -/
def eventInserted (b : BayNo) (policy : Policy) (drawer : Option DrawerNo) : Event :=
  { kind := 0x10, port := none, subject := b.val, sense := false,
    detail := [byteOf policy.code, byteOf (match drawer with | some d => d.val | none => 0xFF), 0, 0] }

/-- REMOVED (R12). -/
def eventRemoved (b : BayNo) (wasPowered : Bool) (saved : Seated) : Event :=
  { kind := 0x11, port := none, subject := b.val, sense := false,
    detail := [byteOf (bit wasPowered), byteOf saved.code, 0, 0] }

/-- PRESENCE_GLITCH (R8, R11): the state the bay returned to. -/
def eventGlitch (b : BayNo) (back : BayState) : Event :=
  { kind := 0x12, port := none, subject := b.val, sense := false, detail := [byteOf back.code, 0, 0, 0] }

/-- ADMITTED (R42). -/
def eventAdmitted (b : BayNo) (r : RailNo) (priority : Fin 4) (draw : Nat) : Event :=
  { kind := 0x13, port := none, subject := b.val, sense := false,
    detail := [byteOf r.val, byteOf priority.val] ++ le16 (sat16 draw) }

/-- SPUN_UP (R44). -/
def eventSpunUp (b : BayNo) (r : RailNo) (running : Nat) : Event :=
  { kind := 0x14, port := none, subject := b.val, sense := false, detail := [byteOf r.val, 0] ++ le16 (sat16 running) }

/-- Why a powered bay's switch was turned off (R26). -/
inductive OffCause where
  | order
  | removal
  | fault
  deriving DecidableEq, Repr

/-- The code of a cause (R175). -/
def OffCause.code : OffCause → Nat
  | .order => 0
  | .removal => 1
  | .fault => 2

/-- POWERED_OFF (R12, R20, R56): cause, state or saved state left, charge removed. -/
def eventPoweredOff (b : BayNo) (cause : OffCause) (left : Seated) (removed : Nat) : Event :=
  { kind := 0x15, port := none, subject := b.val, sense := false,
    detail := [byteOf cause.code, byteOf left.code] ++ le16 (sat16 removed) }

/-- BAY_FAULT (R57, R60). -/
def eventBayFault (b : BayNo) (count limit : Nat) (taken : Seated) (leaving : Bool) : Event :=
  { kind := 0x16, port := none, subject := b.val, sense := false,
    detail := [byteOf count, byteOf limit, byteOf taken.code, byteOf (bit leaving)] }

/-- BAY_LOCKED (R58). -/
def eventBayLocked (b : BayNo) (count limit : Nat) : Event :=
  { kind := 0x17, port := none, subject := b.val, sense := false, detail := [byteOf count, byteOf limit, 0, 0] }

/-- FAULT_CLEARED (R62): the state and the count before the order. -/
def eventFaultCleared (x : Port) (b : BayNo) (before : BayState) (count : Nat) : Event :=
  { kind := 0x18, port := some x, subject := b.val, sense := false, detail := [byteOf before.code, byteOf count, 0, 0] }

/-- DRAWER_OPENED (R23): the state left. -/
def eventDrawerOpened (d : DrawerNo) (left : DrawerState) : Event :=
  { kind := 0x20, port := none, subject := d.val, sense := false, detail := [byteOf left.code, 0, 0, 0] }

/-- DRAWER_CLOSED (R23). -/
def eventDrawerClosed (d : DrawerNo) : Event :=
  { kind := 0x21, port := none, subject := d.val, sense := false, detail := [0, 0, 0, 0] }

/-- SUPPLY_CHANGED (R29). -/
def eventSupplyChanged (old new : SupplyState) (line0 line1 : Bool) : Event :=
  { kind := 0x30, port := none, subject := noSubject, sense := false,
    detail := [byteOf old.code, byteOf new.code, byteOf (bit line0), byteOf (bit line1)] }

/-- RAIL_OVERDRAW (R49). -/
def eventOverdraw (r : RailNo) (draw trip : Nat) : Event :=
  { kind := 0x31, port := none, subject := r.val, sense := false, detail := le16 (sat16 draw) ++ le16 (sat16 trip) }

/-- RAIL_OVERDRAW_END (R50). -/
def eventOverdrawEnd (r : RailNo) (draw : Nat) : Event :=
  { kind := 0x32, port := none, subject := r.val, sense := false, detail := le16 (sat16 draw) ++ [0, 0] }

/-- RAIL_OVER_LIMIT (R52): sense 1 at the end of the condition, 0 at its begin. -/
def eventOverLimit (r : RailNo) (ended : Bool) (draw limit : Nat) : Event :=
  { kind := 0x33, port := none, subject := r.val, sense := ended, detail := le16 (sat16 draw) ++ le16 (sat16 limit) }

/-- FAN_FAILED (R113). -/
def eventFanFailed (f : FanNo) (rpm minRpm : Nat) : Event :=
  { kind := 0x40, port := none, subject := f.val, sense := false, detail := le16 (sat16 rpm) ++ le16 (sat16 minRpm) }

/-- FAN_RECOVERED (R114). -/
def eventFanRecovered (f : FanNo) (rpm minRpm : Nat) : Event :=
  { kind := 0x41, port := none, subject := f.val, sense := false, detail := le16 (sat16 rpm) ++ le16 (sat16 minRpm) }

/-- SENSOR_LOST (R70): the failure kind and the last good value. -/
def eventSensorLost (n : SensorNo) (kind : FailureKind) (last : Option Int) : Event :=
  { kind := 0x42, port := none, subject := n.val, sense := false, detail := [byteOf kind.code, 0] ++ le16 (tempCode last) }

/-- SENSOR_BACK (R70): the new value, and the last good read before the loss in whole seconds. -/
def eventSensorBack (n : SensorNo) (value : Int) (lastGood : Option Uptime) : Event :=
  { kind := 0x43, port := none, subject := n.val, sense := false,
    detail := le16 (signed16 value) ++ le16 (sat16 (uptimeCode lastGood / 1000)) }

/-- ZONE_WARN (R78). -/
def eventZoneWarn (z : ZoneNo) (set : Bool) (temp threshold : Int) : Event :=
  { kind := 0x50, port := none, subject := z.val, sense := set, detail := le16 (signed16 temp) ++ le16 (signed16 threshold) }

/-- ZONE_CRITICAL (R78). -/
def eventZoneCritical (z : ZoneNo) (set : Bool) (temp threshold : Int) : Event :=
  { kind := 0x51, port := none, subject := z.val, sense := set, detail := le16 (signed16 temp) ++ le16 (signed16 threshold) }

/-- ZONE_BLIND (R77): the sight before. -/
def eventZoneBlind (z : ZoneNo) (before : Sight) : Event :=
  { kind := 0x52, port := none, subject := z.val, sense := false, detail := [byteOf before.code, 0, 0, 0] }

/-- ZONE_SEES (R77): the new zone temperature and the hottest source. -/
def eventZoneSees (z : ZoneNo) (temp : Int) (hottest : Hottest) : Event :=
  { kind := 0x53, port := none, subject := z.val, sense := false,
    detail := le16 (signed16 temp) ++ [byteOf hottest.kindCode, byteOf hottest.number] }

end Sys2Proof.Machine
end

