-- ==== Sys2Proof/Machine/Records.lean ====
section
/-! DEFINITION. The published records: the bytes of each after its update count (R168, R169, R171), and their rewrites with the
notice each sets (section 10.3, R177). `rewrite…` makes one rewrite; `publish…` makes it when a published field changed. -/

namespace Sys2Proof.Machine

/-- A rail's committed draw: base draw plus bay part plus fan part (R27, R31). -/
def committed (s : State) (r : RailNo) : Nat := (s.railDesc r).base + (s.rail r).bayPart + (s.rail r).fanPart

/-! ### The identity block (R168) -/

/-- The place of the description record. -/
def descriptionBase : Nat := 0x0000
/-- The place of the profile record. -/
def profileBase : Nat := 0x0070
/-- The place of the live record. -/
def liveBase : Nat := 0x00B0

/-- A fan's six bytes in the description record. -/
def fanDescBytes (f : FanDesc) : List Byte :=
  [byteOf (bit f.fitted), byteOf f.zone.val, byteOf f.rail.val, byteOf f.pulses] ++ le16 f.minRpm

/-- The description record (R168); the revision byte holds 1. -/
def descriptionBody (s : State) : List Byte :=
  [0x42, 0x58, 0x39, 0x36, 1, byteOf s.dl.status.code, byteOf s.dl.reason.code, byteOf s.dl.resetKind.code,
    byteOf s.dl.warmRestarts, byteOf s.dl.desc.bayCount] ++
  s.dl.desc.serial.toList ++ zeros 4 ++ (List.finRange 12).flatMap fun f => fanDescBytes (s.fanDesc f)

/-- A profile's six bytes in the profile record. -/
def profileBytes (p : Profile) : List Byte := le16 p.surge ++ le16 p.surgeTime ++ le16 p.running

/-- The profile record (R168). -/
def profileBody (s : State) : List Byte := (List.finRange 8).flatMap fun p => profileBytes (s.profile p)

/-- The live record (R168). -/
def liveBody (s : State) : List Byte :=
  le32 s.uptime.toNat ++ [byteOf s.ps.supply.code, byteOf s.pa.state.code, byteOf s.pb.state.code]

/-- One rewrite of the live record; it sets no notice of its own (R168). -/
def rewriteLive (s : State) : State := putRecord liveBase (liveBody s) s

/-- One rewrite of the profile record; it sets no notice (R168). -/
def rewriteProfiles (s : State) : State := putRecord profileBase (profileBody s) s

/-- The one rewrite of the description record (R168). -/
def rewriteDescription (s : State) : State := putRecord descriptionBase (descriptionBody s) s

/-! ### Bay records (section 1.7, R169) -/

/-- The place of bay b's record. -/
def bayBase (b : BayNo) : Nat := 0x1000 + 32 * b.val

/-- Bay b's record after its update count. With no lingering link byte 23, the link's slot, is 0 (DESIGN CHOICE, unsafe:
notes/assumptions/37.md). -/
def bayBody (s : State) (b : BayNo) : List Byte :=
  let v := s.bay b
  let d := s.bayDesc b
  [byteOf v.state.code, byteOf (match v.state with | .leaving h => h.code | _ => 0xFF), byteOf (bit v.switch),
    byteOf (portCode v.holder), byteOf v.policy.code, byteOf v.profile.val, byteOf v.priority.val, byteOf v.retries,
    byteOf (match d.drawer with | some n => n.val | none => 0xFF), byteOf d.rail.val, byteOf d.zone.val,
    byteOf (bit d.altPhase)] ++
  le16 (s.charge b) ++ le16 v.admittedSurge ++ le16 v.admittedSurgeTime ++ le16 v.admittedRunning ++
  [byteOf (portCode (v.link.map Prod.fst)), byteOf (match v.link with | some l => l.2.val | none => 0)] ++
  le16 (tempCode v.driveTemp) ++ [byteOf v.shown.green.val, byteOf v.shown.amber.val] ++ le32 v.changed.toNat

/-- One rewrite of bay b's record, with BAYS on both ports (R25). -/
def rewriteBay (b : BayNo) (s : State) : State := noticeBoth noticeBays (putRecord (bayBase b) (bayBody s b) s)

/-- Rewrite bay b's record if a published field changed (R25). -/
def publishBay (b : BayNo) (s : State) : State :=
  if recordDiffers (bayBase b) (bayBody s b) s then rewriteBay b s else s

/-! ### Drawer records (R170) -/

/-- The place of drawer d's record. -/
def drawerBase (d : DrawerNo) : Nat := 0x0D40 + 16 * d.val

/-- Drawer d's record after its update count. -/
def drawerBody (s : State) (d : DrawerNo) : List Byte :=
  let v := s.drawer d
  [byteOf v.state.code, byteOf (bit v.line.level), byteOf v.zoneSet.toNat] ++ zeros 3 ++ le32 (uptimeCode v.settleEnd) ++
  le32 v.changed.toNat

/-- One rewrite of drawer d's record, with BAYS on both ports (R170). -/
def rewriteDrawer (d : DrawerNo) (s : State) : State := noticeBoth noticeBays (putRecord (drawerBase d) (drawerBody s d) s)

/-! ### The queue view (R37, R171) -/

/-- The place of the queue view. -/
def queueBase : Nat := 0x0D80

/-- The queue view after its update count: the number of entries, 0, and one bay number a place, 0xFF beyond the entries. -/
def queueBody (s : State) : List Byte :=
  [byteOf s.ps.queue.length, 0] ++
  (s.ps.queue.map (fun e : QueueEntry => byteOf e.bay.val) ++ List.replicate 96 0xFF).take 96

/-- One rewrite of the queue view, with BAYS on both ports (R37). -/
def rewriteQueue (s : State) : State := noticeBoth noticeBays (putRecord queueBase (queueBody s) s)

/-! ### Rail records (R33) -/

/-- The place of rail r's record. -/
def railBase (r : RailNo) : Nat := 0x0F00 + 64 * r.val

/-- Rail r's record after its update count. -/
def railBody (s : State) (r : RailNo) : List Byte :=
  let v := s.rail r
  let d := s.railDesc r
  le16 v.dual ++ le16 v.single ++ le16 d.dualCeiling ++ le16 d.singleCeiling ++ le16 v.admitLimit ++ le32 v.trip ++ le16 d.base ++
  zeros 2 ++ le32 v.bayPart ++ le32 v.fanPart ++ le32 (committed s r) ++ le32 (uptimeCode v.lastAdmission) ++
  [byteOf d.stagger, byteOf d.level.val, byteOf d.holdOff, byteOf (railFlags v),
    byteOf (match v.blocked with | some b => b.val | none => 0xFF)] ++ zeros 23

/-- One rewrite of rail r's record, with POWER on both ports (R33). -/
def rewriteRail (r : RailNo) (s : State) : State := noticeBoth noticePower (putRecord (railBase r) (railBody s r) s)

/-- Rewrite rail r's record if a published field changed (R33). -/
def publishRail (r : RailNo) (s : State) : State :=
  if recordDiffers (railBase r) (railBody s r) s then rewriteRail r s else s

/-! ### Zone records (R101) -/

/-- The place of zone z's record. -/
def zoneBase (z : ZoneNo) : Nat := 0x0A80 + 64 * z.val

/-- A curve point's three bytes. -/
def pointBytes (p : CurvePoint) : List Byte := le16 (signed16 p.temp) ++ [byteOf p.duty]

/-- Zone z's record after its update count; curve points beyond the n-th read 0. With no override byte 27, its duty, is 0 (DESIGN
CHOICE, unsafe: notes/assumptions/37.md). -/
def zoneBody (s : State) (z : ZoneNo) : List Byte :=
  let v := s.zone z
  let d := s.zoneDesc z
  [byteOf v.curve.length, byteOf d.drawerFloor] ++ (v.curve.flatMap pointBytes ++ zeros 18).take 18 ++
  [byteOf d.bump, byteOf d.upStep, byteOf d.downStep, byteOf d.minDuty, byteOf (overrideFlags v.override),
    byteOf (match v.override with | some o => o.duty | none => 0)] ++
  le32 (uptimeCode (v.override.map Override.endAt)) ++ le16 (tempCode v.sense.temp) ++
  [byteOf v.sense.hottest.kindCode, byteOf v.sense.hottest.number, byteOf (senseFlags v.sense), byteOf v.demand,
    byteOf v.source.code, byteOf v.failedFans, byteOf (floorFlags v), byteOf v.target, byteOf v.duty, 0] ++
  le32 (uptimeCode v.lastPeriod) ++ zeros 16

/-- One rewrite of zone z's record, with COOLING on both ports (R101). -/
def rewriteZone (z : ZoneNo) (s : State) : State := noticeBoth noticeCooling (putRecord (zoneBase z) (zoneBody s z) s)

/-- Rewrite zone z's record if a published field changed (R101). -/
def publishZone (z : ZoneNo) (s : State) : State :=
  if recordDiffers (zoneBase z) (zoneBody s z) s then rewriteZone z s else s

/-! ### Sensor records (R71) -/

/-- The place of sensor n's record. -/
def sensorBase (n : SensorNo) : Nat := 0x0C40 + 16 * n.val

/-- Sensor n's record after its update count. -/
def sensorBody (s : State) (n : SensorNo) : List Byte :=
  let v := s.sensor n
  let d := s.sensorDesc n
  [byteOf d.address, byteOf d.zone.val, byteOf (sensorFlags d.fitted v), 0] ++ le16 (tempCode v.value) ++
  le16 (signed16 v.raw) ++ le32 (uptimeCode v.lastGood) ++ zeros 2

/-- One rewrite of sensor n's record, with COOLING on both ports (R71). -/
def rewriteSensor (n : SensorNo) (s : State) : State :=
  noticeBoth noticeCooling (putRecord (sensorBase n) (sensorBody s n) s)

/-- Rewrite sensor n's record if a field of it changed (R71). -/
def publishSensor (n : SensorNo) (s : State) : State :=
  if recordDiffers (sensorBase n) (sensorBody s n) s then rewriteSensor n s else s

/-! ### Fan records (R116) -/

/-- The place of fan f's record. -/
def fanBase (f : FanNo) : Nat := 0x0B80 + 16 * f.val

/-- Fan f's record after its update count, as an evaluation writes it. -/
def fanBody (s : State) (f : FanNo) : List Byte :=
  let v := s.fan f
  [byteOf (fanFlags v), byteOf v.duty] ++ le24 v.rpm ++ le24 (v.period.getD 0) ++ le16 v.charge ++
  le32 (uptimeCode v.lastEvaluation)

/-- One rewrite of fan f's record, with COOLING on both ports (R116). -/
def rewriteFan (f : FanNo) (s : State) : State := noticeBoth noticeCooling (putRecord (fanBase f) (fanBody s f) s)

/-- Fan f's record with the duty and the charge it now holds and every other byte as the last rewrite left it: the rpm the
record shows is the one the last evaluation read (R116), and the period is kept with it (DESIGN CHOICE, unsafe:
notes/assumptions/36.md). -/
def fanHandingBody (s : State) (f : FanNo) : List Byte :=
  let old := Memory.readRun s.xm (fanBase f + 2) 14
  [old.getD 0 0, byteOf (s.fan f).duty] ++ (old.drop 2).take 6 ++ le16 (s.fan f).charge ++ old.drop 10

/-- The rewrite that a changed handing of duty or charge makes (R116). -/
def rewriteFanHanding (f : FanNo) (s : State) : State :=
  noticeBoth noticeCooling (putRecord (fanBase f) (fanHandingBody s f) s)

end Sys2Proof.Machine
end

