-- ==== Sys2Proof/Machine/Operands.lean ====
section
/-! DEFINITION. Orders: slots, result codes, the arguments of each kind and their encoding, and order intake's form check
(R137, R143, R149, R154). -/

namespace Sys2Proof.Machine

/-! ### Slots (R137, R143) -/

/-- The place of slot n of port x. -/
def slotBase (x : Port) (n : SlotNo) : Nat :=
  match x with
  | .a => 0x0100 + 32 * n.val
  | .b => 0x0400 + 32 * n.val

/-- The state byte FREE. -/
def slotFree : Byte := 0
/-- The state byte POSTED. -/
def slotPosted : Byte := 1
/-- The state byte TAKEN. -/
def slotTaken : Byte := 2
/-- The state byte DONE. -/
def slotDone : Byte := 3

/-- The place of the report entry of bay b for port x (R137). -/
def reportBase (x : Port) (b : BayNo) : Nat :=
  match x with
  | .a => 0x0700 + 4 * b.val
  | .b => 0x0880 + 4 * b.val

/-! ### Result codes (R154) -/

/-- The results. -/
inductive Result where
  | ok
  | okClamped
  | already
  | spunUp
  | heldElsewhere
  | notHeld
  | badKind
  | badTarget
  | badArgument
  | bayEmpty
  | bayLocked
  | bayDisabled
  | busy
  | cancelled
  | abortedRemoved
  | abortedOff
  | abortedFault
  | timedOut
  | portSilent
  | notFound
  deriving DecidableEq, Repr

/-- The result code, byte 24 of a finished slot. -/
def Result.code : Result → Nat
  | .ok => 0
  | .okClamped => 1
  | .already => 2
  | .spunUp => 3
  | .heldElsewhere => 4
  | .notHeld => 5
  | .badKind => 6
  | .badTarget => 7
  | .badArgument => 8
  | .bayEmpty => 9
  | .bayLocked => 10
  | .bayDisabled => 11
  | .busy => 12
  | .cancelled => 13
  | .abortedRemoved => 14
  | .abortedOff => 15
  | .abortedFault => 16
  | .timedOut => 17
  | .portSilent => 18
  | .notFound => 19

/-- A result with its result data, bytes 25 to 31; places beyond the list hold 0 (R143). -/
structure Answer where
  result : Result
  data : List Byte
  deriving DecidableEq, Repr

/-- A result with result data 0. -/
def plain (r : Result) : Answer := { result := r, data := [] }

/-- The eight bytes a finish writes, 24 to 31. -/
def Answer.bytes (o : Answer) : List Byte := byteOf o.result.code :: (o.data ++ zeros 7).take 7

/-! ### Order kinds (R154) -/

/-- CLAIM_BAYS. -/
def kindClaimBays : Byte := 0x01
/-- RELEASE_BAYS. -/
def kindReleaseBays : Byte := 0x02
/-- BAY_POWER_ON. -/
def kindBayPowerOn : Byte := 0x03
/-- BAY_POWER_OFF. -/
def kindBayPowerOff : Byte := 0x04
/-- CLEAR_BAY_FAULT. -/
def kindClearBayFault : Byte := 0x05
/-- SET_BAY_POLICY. -/
def kindSetBayPolicy : Byte := 0x06
/-- SET_PROFILE. -/
def kindSetProfile : Byte := 0x07
/-- SET_INDICATION. -/
def kindSetIndication : Byte := 0x08
/-- LOCATE. -/
def kindLocate : Byte := 0x09
/-- LOAD_PATTERN. -/
def kindLoadPattern : Byte := 0x0A
/-- SET_ZONE_CURVE. -/
def kindSetZoneCurve : Byte := 0x0B
/-- SET_ZONE_OVERRIDE. -/
def kindSetZoneOverride : Byte := 0x0C
/-- SET_RAIL_LIMIT. -/
def kindSetRailLimit : Byte := 0x0D
/-- CANCEL_ORDER. -/
def kindCancelOrder : Byte := 0x0E

/-! ### Arguments (R149) -/

/-- The argument byte at byte place p of the slot, 4 to 23. -/
def argByte (args : Vector Byte 20) (p : Nat) : Nat := (args.toList.getD (p - 4) 0).toNat

/-- The 16-bit argument at byte places p and p + 1. -/
def argHalf (args : Vector Byte 20) (p : Nat) : Nat := argByte args p + 256 * argByte args (p + 1)

/-- Twenty argument bytes from the first ones; the others are 0. -/
def argsOf (bs : List Byte) : Vector Byte 20 := Vector.ofFn fun i => bs.getD i.val 0

/-- The two bytes of a 16-bit argument. -/
def halfBytes (v : BitVec 16) : List Byte := le16 v.toNat

/-- A bay number from an argument that the form check has found in range. -/
def bayOf (n : Nat) : BayNo := Fin.ofNat 96 n

/-- The bays of a range, ascending. -/
def bayRange (first count : Nat) : List BayNo :=
  (List.finRange 96).filter fun b => decide (first ≤ b.val ∧ b.val < first + count)

/-- The lowest bay of a range with a property. -/
def firstIn (range : List BayNo) (p : BayNo → Bool) : Option BayNo := range.find? p

/-! ### Patterns and curves as bytes (R149, R179) -/

/-- The step code at place p of a pattern whose step code bytes `g` gives: two bits of byte p ÷ 4 (R149, R179). -/
def stepFrom (g : Nat → Nat) (p : Nat) : Fin 4 := Fin.ofNat 4 (g (p / 4) / 4 ^ (p % 4))

/-- A colour's two levels, the low four bits of two bytes; the owner checks or clamps the bytes first. -/
def colourFrom (green amber : Nat) : Colour := { green := Fin.ofNat 16 green, amber := Fin.ofNat 16 amber }

/-- The pattern that 15 bytes hold, counted from their start: length add, step code, flags (stretch in bit 0, blend in bit 1),
three colours and the step codes. An order holds them at bytes 5 to 19 and a description entry at bytes 0 to 14 (R149,
R179). -/
def patternFrom (g : Nat → Nat) : Pattern :=
  { lengthAdd := g 0, stepCode := g 1, stretch := (g 2).testBit 0, blend := (g 2).testBit 1,
    colour1 := colourFrom (g 3) (g 4), colour2 := colourFrom (g 5) (g 6), colour3 := colourFrom (g 7) (g 8),
    steps := Vector.ofFn fun i => stepFrom (fun k => g (9 + k)) i.val }

/-- Point i (from 0) of a curve whose bytes start at its point count: a signed temperature, then a duty (R149, R179). -/
def pointFrom (g : Nat → Nat) (i : Nat) : CurvePoint :=
  { temp := (BitVec.ofNat 16 (g (1 + 3 * i) + 256 * g (2 + 3 * i))).toInt, duty := g (3 + 3 * i) }

/-- The first n points of a curve as bytes hold it. -/
def curveFrom (g : Nat → Nat) (n : Nat) : List CurvePoint := (List.range n).map (pointFrom g)

/-- Whether each point's temperature is above that of the one before it and no duty is below (R92, R180). -/
def orderedCurve (ps : List CurvePoint) : Bool :=
  match ps with
  | [] => true
  | [_] => true
  | p :: q :: rest => decide (p.temp < q.temp ∧ p.duty ≤ q.duty) && orderedCurve (q :: rest)

/-- Whether a curve is valid (R92). -/
def validCurve (ps : List CurvePoint) : Bool :=
  decide (1 ≤ ps.length ∧ ps.length ≤ 6) &&
  ps.all (fun p => decide (Config.minTemp ≤ p.temp ∧ p.temp ≤ Config.maxTemp)) && orderedCurve ps

/-! ### The form check (R149) -/

/-- A range whose count is 0, whose first bay is above 95 or which runs past bay 95. -/
def badRange (args : Vector Byte 20) : Bool :=
  decide (argByte args 5 = 0 ∨ 95 < argByte args 4 ∨ 96 < argByte args 4 + argByte args 5)

/-- Whether the target of an order of a kind lies outside its range (the target column of R149). -/
def badTarget (kind : Byte) (args : Vector Byte 20) : Bool :=
  match kind.toNat with
  | 0x01 => badRange args
  | 0x02 => badRange args
  | 0x03 => decide (95 < argByte args 4)
  | 0x04 => decide (95 < argByte args 4)
  | 0x05 => decide (95 < argByte args 4)
  | 0x06 => badRange args
  | 0x07 => decide (7 < argByte args 4)
  | 0x08 => badRange args
  | 0x09 => decide (95 < argByte args 4)
  | 0x0A => decide (31 < argByte args 4)
  | 0x0B => decide (3 < argByte args 4)
  | 0x0C => decide (3 < argByte args 4)
  | 0x0D => decide (3 < argByte args 4)
  | 0x0E => decide (23 < argByte args 4)
  | _ => false

/-- Whether an argument that order intake checks lies outside its range (the argument column of R149). -/
def badArgument (kind : Byte) (args : Vector Byte 20) : Bool :=
  match kind.toNat with
  | 0x03 =>
    decide (3 < argByte args 5 ∨ (7 < argByte args 6 ∧ argByte args 6 ≠ 0xFF) ∨ 1 < argByte args 7 ∨
      (argByte args 7 = 1 ∧ 3600 < argHalf args 8))
  | 0x06 => decide (1 < argByte args 6)
  | _ => false

/-- Order intake's form check: the first check that fails decides the result; none when the order passes (R149). -/
def formCheck (kind : Byte) (args : Vector Byte 20) : Option Result :=
  if kind.toNat < 0x01 ∨ 0x0E < kind.toNat then some .badKind
  else if badTarget kind args then some .badTarget
  else if badArgument kind args then some .badArgument
  else none

end Sys2Proof.Machine
end

