-- ==== Sys2Proof/Machine/Intake.lean ====
section
/-! DEFINITION. Finishing orders: the finish of a slot (R144), lingering orders and the lingering link (R14, R147, R152), and
the result data of a bay order (R17). -/

namespace Sys2Proof.Machine

/-- A bay's place in the admission queue counting from 1, or 0 when it has no entry (R37). -/
def queuePlace (s : State) (b : BayNo) : Nat :=
  match s.ps.queue.findIdx? fun e => e.bay = b with
  | some i => i + 1
  | none => 0

/-- The result data of a power order: the bay's state code in byte 25 and its queue place in byte 26 (R17). -/
def bayData (s : State) (b : BayNo) : List Byte := [byteOf (s.bay b).state.code, byteOf (queuePlace s b)]

/-- The context of port x and slot n, if that slot holds a taken order (R145, R147). -/
def contextOf (s : State) (x : Port) (n : SlotNo) : Option Context :=
  s.oi.contexts.find? fun c => c.port = x ∧ c.slot = n

/-- The context of port x and slot n, if it holds a lingering order (R152). -/
def lingeringOf (s : State) (x : Port) (n : SlotNo) : Option Context :=
  s.oi.contexts.find? fun c => c.port = x ∧ c.slot = n ∧ c.linger.isSome

/-- Remove the context of port x and slot n (R147). -/
def dropContext (x : Port) (n : SlotNo) (s : State) : State :=
  s.setContexts (s.oi.contexts.filter fun c => ¬(c.port = x ∧ c.slot = n))

/-- Finish an order: the result and its data, then DONE, then the slot's bit in NOTICE; its context goes (R144, R147). -/
def finishSlot (x : Port) (n : SlotNo) (o : Answer) (s : State) : State :=
  let s := s.store (slotBase x n + 24) o.bytes
  let s := s.store (slotBase x n) [slotDone]
  let s := dropContext x n s
  noticePort x (slotBit n) s

/-- Finish a lingering order with an outcome; where none of that port and slot lingers, the outcome is discarded (R152). -/
def finishLingering (x : Port) (n : SlotNo) (o : Answer) (s : State) : State :=
  match lingeringOf s x n with
  | some _ => finishSlot x n o s
  | none => s

/-- Clear a bay's lingering link if it still names the port and slot, and make no other change to the bay (R14). -/
def releaseLink (x : Port) (n : SlotNo) (b : BayNo) (s : State) : State :=
  if (s.bay b).link = some (x, n) then publishBay b (s.setBay b { s.bay b with link := none }) else s

/-- A change of the bay finishes the lingering order its link names, and the link goes with it; the caller's change of the
bay is published after (R14). -/
def finishLink (b : BayNo) (r : Result) (s : State) : State :=
  match (s.bay b).link with
  | some l =>
    let s := finishLingering l.1 l.2 { result := r, data := bayData s b } s
    s.setBay b { s.bay b with link := none }
  | none => s

/-- Order intake ends a lingering order by itself, on expiry, cancel or silence: it finishes it with the bay's state and place
as result data and tells the bay controller (R14, R151, R153, R164). -/
def endLingering (c : Context) (r : Result) (s : State) : State :=
  let b := bayOf (argByte c.args 4)
  releaseLink c.port c.slot b (finishSlot c.port c.slot { result := r, data := bayData s b } s)

end Sys2Proof.Machine
end

