-- ==== Sys2Proof/Machine/Power.lean ====
section
/-! DEFINITION. The power sequencer (chapter 2): charges and the over-limit condition, the admission queue, examination and
admission, the admit limit and the comparators, and its commands SUPPLY_LINE_SAMPLE, SUPPLY_DEBOUNCE_END, STAGGER_END,
RISING_CROSSING, FALLING_CROSSING and HOLD_OFF_END. -/

namespace Sys2Proof.Machine

/-! ### The over-limit condition and charges (R31, R52) -/

/-- The rail a bay draws from. -/
def railOf (s : State) (b : BayNo) : RailNo := (s.bayDesc b).rail

/-- Evaluate the over-limit condition of a rail: set or clear OVER_LIMIT and log its begin or end (R52). -/
def evaluateOverLimit (r : RailNo) (s : State) : State :=
  let isOver := decide ((s.rail r).admitLimit < committed s r)
  if isOver = (s.rail r).overLimit then s
  else
    logEvent (eventOverLimit r (!isOver) (committed s r) (s.rail r).admitLimit) (s.setRail r { s.rail r with overLimit := isOver })

/-- Replace the charge held for a bay in the bay part of its rail (R31). -/
def bookCharge (b : BayNo) (c : Nat) (s : State) : State :=
  let r := railOf s b
  (s.setRail r { s.rail r with bayPart := (s.rail r).bayPart + c - s.charge b }).setCharge b c

/-- The bay controller hands a new charge: it is booked, the over-limit condition evaluated and the rail record rewritten; a
charge equal to the old one changes nothing (R31). The examination that a fall calls for is the caller's last act, so that
the events of the change precede those of the examination (R65). -/
def handCharge (b : BayNo) (c : Nat) (s : State) : State :=
  if c = s.charge b then s
  else publishRail (railOf s b) (evaluateOverLimit (railOf s b) (bookCharge b c s))

/-! ### The admission queue (R34 to R37) -/

/-- Insert an entry after every entry whose priority is at least its own and before the first of a lower one (R35). -/
def insertEntry (e : QueueEntry) (q : List QueueEntry) : List QueueEntry :=
  match q with
  | [] => [e]
  | h :: t => if e.priority ≤ h.priority then h :: insertEntry e t else e :: h :: t

/-- The queue without a bay's entry (R37). -/
def withoutBay (b : BayNo) (q : List QueueEntry) : List QueueEntry := q.filter fun e => e.bay ≠ b

/-! ### Eligibility, examination and admission (R38 to R42) -/

/-- Whether a bay's drawer is CLOSED, or it has no drawer (R21, R38). -/
def drawerHome (s : State) (b : BayNo) : Bool :=
  match (s.bayDesc b).drawer with
  | some d => decide ((s.drawer d).state = .closed)
  | none => true

/-- Whether a queued bay is eligible for admission (R38). -/
def eligible (s : State) (b : BayNo) : Bool :=
  decide ((s.bay b).state = .seated .queued) && drawerHome s b && !(s.sense (s.bayDesc b).zone).critical

/-- The candidate of a rail: the first eligible entry in list order whose bay is on it (R39). -/
def candidate (s : State) (r : RailNo) : Option QueueEntry :=
  s.ps.queue.find? fun e => decide (railOf s e.bay = r) && eligible s e.bay

/-- The profile a bay's next admission uses. -/
def profileOf (s : State) (b : BayNo) : Profile := s.profile (s.bay b).profile

/-- Whether a bay's surge draw fits under the rail's admit limit on top of the committed draw (R39, R42). -/
def fits (s : State) (r : RailNo) (b : BayNo) : Bool :=
  decide (committed s r + (profileOf s b).surge ≤ (s.rail r).admitLimit)

/-- Admit a bay on a rail, as one change of the bay (R42). -/
def admitBay (r : RailNo) (b : BayNo) (s : State) : State :=
  let p := profileOf s b
  let s := s.setQueue (withoutBay b s.ps.queue)
  let s := s.setBay b
    { s.bay b with
      admittedSurge := p.surge, admittedSurgeTime := p.surgeTime, admittedRunning := p.running, switch := true,
      state := .seated .spinup, surgeEnd := some (uptimeAfter s.uptime (100 * p.surgeTime)), switchOn := .admitted s.uptime,
      changed := s.uptime }
  let s := bookCharge b p.surge s
  let s := s.setRail r
    { s.rail r with lastAdmission := some s.uptime, stagger := (s.rail r).stagger || decide (0 < (s.railDesc r).stagger) }
  let s := logEvent (eventAdmitted b r (s.bay b).priority (committed s r)) s
  let s := evaluateOverLimit r s
  let s := rewriteQueue s
  let s := rewriteRail r s
  publishBay b s

/-- Set BLOCKED with its blocking bay, or clear it (R39). -/
def setBlocked (r : RailNo) (v : Option BayNo) (s : State) : State := s.setRail r { s.rail r with blocked := v }

/-- The examination of a rail, with at most `fuel` turns of its steps 1 to 4 (R41). -/
def examineWith (fuel : Nat) (r : RailNo) (s : State) : State :=
  match fuel with
  | 0 => s
  | n + 1 =>
    match candidate s r with
    | none => publishRail r (setBlocked r none s)
    | some e =>
      if fits s r e.bay then
        if (s.rail r).paused ∨ (s.rail r).stagger then publishRail r (setBlocked r none s)
        else examineWith n r (admitBay r e.bay (setBlocked r none s))
      else publishRail r (setBlocked r (some e.bay) s)

/-- Examine a rail for admission (R41). Each turn that goes on takes an entry out of the queue, so one turn more than the
queue is long is enough. -/
def examineRail (r : RailNo) (s : State) : State := examineWith (s.ps.queue.length + 1) r s

/-- Examine, in ascending number, every rail that has a queued bay with a property (R40). -/
def examineRailsOf (p : BayNo → Bool) (s : State) : State :=
  forFour (fun r t => if s.ps.queue.any (fun e => decide (railOf s e.bay = r) && p e.bay) then examineRail r t else t) s

/-- Examine a bay's rail if a condition holds: the examination that a fall of its charge or an end of its membership calls
for (R31, R37). -/
def examineIf (cond : Bool) (b : BayNo) (s : State) : State := if cond then examineRail (railOf s b) s else s

/-- A join: the bay's entry at the priority its field holds, the queue view, and the examination of its rail (R35). -/
def joinQueue (b : BayNo) (s : State) : State :=
  examineRail (railOf s b)
    (rewriteQueue (s.setQueue (insertEntry { bay := b, priority := (s.bay b).priority } s.ps.queue)))

/-- A move: the bay's entry taken out and inserted again at the priority its field holds (R36). -/
def moveInQueue (b : BayNo) (s : State) : State :=
  examineRail (railOf s b)
    (rewriteQueue (s.setQueue (insertEntry { bay := b, priority := (s.bay b).priority } (withoutBay b s.ps.queue))))

/-- A leave: the entry goes and the queue view is rewritten; the examination is the caller's last act (R37, R65). -/
def leaveQueue (b : BayNo) (s : State) : State := rewriteQueue (s.setQueue (withoutBay b s.ps.queue))

/-! ### Comparators and the admit limit (R30, R48 to R50) -/

/-- The trip percentage of a level code (R48). -/
def tripPercent (level : Fin 8) : Nat :=
  match level with
  | 0 => 70
  | 1 => 80
  | 2 => 90
  | 3 => 100
  | 4 => 105
  | 5 => 110
  | 6 => 120
  | 7 => 130

/-- The trip level of an admit limit (R48). -/
def tripLevel (limit : Nat) (level : Fin 8) : Nat := limit * tripPercent level / 100

/-- Whether a rail's comparator is above: the current is above the trip level (R48). -/
def Rail.above (v : Rail) : Bool := decide (v.trip < v.sense)

/-- A rising crossing: a pause begins with RAIL_OVERDRAW, or a running hold-off stops (R49). -/
def takeRising (r : RailNo) (s : State) : State :=
  if (s.rail r).paused then s.setRail r { s.rail r with holdOffEnd := none }
  else logEvent (eventOverdraw r (committed s r) (s.rail r).trip) (s.setRail r { s.rail r with paused := true })

/-- The end of a pause: PAUSED clears and RAIL_OVERDRAW_END is logged (R50). -/
def endPause (r : RailNo) (s : State) : State :=
  logEvent (eventOverdrawEnd r (committed s r)) (s.setRail r { s.rail r with paused := false, holdOffEnd := none })

/-- A falling crossing: while PAUSED is set the hold-off starts, or with a hold-off time of 0 the pause ends at once (R50). -/
def takeFalling (r : RailNo) (s : State) : State :=
  if (s.rail r).paused then
    if (s.railDesc r).holdOff = 0 then endPause r s
    else s.setRail r { s.rail r with holdOffEnd := some (uptimeAfter s.uptime (1000 * (s.railDesc r).holdOff)) }
  else s

/-- The admit limit a supply state gives a rail (R30). -/
def limitFor (supply : SupplyState) (v : Rail) : Nat :=
  match supply with
  | .both => v.dual
  | .single => v.single
  | .none => 0

/-- Take the crossing that a change of the comparator's output makes (R48). -/
def takeCrossing (r : RailNo) (wasAbove : Bool) (s : State) : State :=
  match wasAbove, (s.rail r).above with
  | false, true => takeRising r s
  | true, false => takeFalling r s
  | false, false => s
  | true, true => s

/-- Recompute a rail's admit limit: at a new value store it and the trip level, take the crossing the new reference makes,
evaluate the over-limit condition, examine the rail and rewrite its record; otherwise nothing (R30). -/
def recomputeLimit (r : RailNo) (s : State) : State :=
  let limit := limitFor s.ps.supply (s.rail r)
  if limit = (s.rail r).admitLimit then s
  else
    let wasAbove := (s.rail r).above
    let s := s.setRail r { s.rail r with admitLimit := limit, trip := tripLevel limit (s.railDesc r).level }
    let s := takeCrossing r wasAbove s
    let s := evaluateOverLimit r s
    publishRail r (examineRail r s)

/-! ### The supply state (R28, R29) -/

/-- The supply state that two debounced levels form (R28). -/
def supplyOf (l0 l1 : Bool) : SupplyState :=
  match l0, l1 with
  | true, true => .both
  | false, false => .none
  | true, false => .single
  | false, true => .single

/-- The supply state of the debounced levels held. -/
def linesSupply (s : State) : SupplyState := supplyOf s.ps.lines[0].level s.ps.lines[1].level

/-- A change of the supply state: the event, the identity block, POWER, and every rail's admit limit (R29). -/
def changeSupply (new : SupplyState) (s : State) : State :=
  let old := s.ps.supply
  let s := { s with ps := { s.ps with supply := new } }
  let s := logEvent (eventSupplyChanged old new s.ps.lines[0].level s.ps.lines[1].level) s
  let s := noticeBoth noticePower (rewriteLive s)
  forFour recomputeLimit s

/-- Replace supply-good line n's entry. -/
def setLine (n : SupplyNo) (v : Line) (s : State) : State := { s with ps := { s.ps with lines := s.ps.lines.set n v } }

/-- A supply-good line's debounce has ended: its level changes, and outside LOADING the supply state follows (R28). -/
def changeLine (n : SupplyNo) (s : State) : State :=
  let s := setLine n { level := !s.ps.lines[n].level, debounce := none } s
  if s.phase = .running ∧ linesSupply s ≠ s.ps.supply then changeSupply (linesSupply s) s else s

/-- One sample of a supply-good line: a level that differs starts the debounce or, at its end, changes the debounced level; one
that agrees stops it (R28). -/
def sampleSupply (good : BitVec 2) (n : SupplyNo) (s : State) : State :=
  let l := s.ps.lines[n]
  if good.getLsbD n.val = l.level then setLine n { l with debounce := none } s
  else
    match l.debounce with
    | none => setLine n { l with debounce := some s.uptime } s
    | some t => if uptimeReached s.uptime (uptimeAfter t Config.supplyDebounce) then changeLine n s else s

/-! ### The commands -/

/-- SUPPLY_LINE_SAMPLE (R28), taken in LOADING as in normal work. -/
def execSupplyLineSample (good : BitVec 2) (s : State) : Host.Outcome State Fault Refusal :=
  .next (if s.phase = .inReset then s else forEach (List.finRange 2) (sampleSupply good) s)

/-- SUPPLY_DEBOUNCE_END (R28): a line's debounce ends, if it runs and its time has passed. -/
def execSupplyDebounceEnd (n : SupplyNo) (s : State) : Host.Outcome State Fault Refusal :=
  .next
    (if s.phase ≠ .inReset ∧
        timerDue s.uptime (s.ps.lines[n].debounce.map fun t => uptimeAfter t Config.supplyDebounce) = true then
      changeLine n s
    else s)

/-- The uptime at which a rail's stagger wait ends (R43). -/
def staggerEndAt (s : State) (r : RailNo) : Option Uptime :=
  (s.rail r).lastAdmission.map fun t => uptimeAfter t (100 * (s.railDesc r).stagger)

/-- STAGGER_END (R43): STAGGER clears at the last admission time plus the stagger time, and the rail is examined. -/
def execStaggerEnd (r : RailNo) (s : State) : Host.Outcome State Fault Refusal :=
  .next
    (if s.phase = .running ∧ (s.rail r).stagger = true ∧ timerDue s.uptime (staggerEndAt s r) = true then
      examineRail r (publishRail r (s.setRail r { s.rail r with stagger := false }))
    else s)

/-- RISING_CROSSING (R49): the rail's current moves to a level that takes its comparator above. A move that leaves the
comparator as it was is stored and is no crossing; during LOADING no crossing is acted on (R51). -/
def execRisingCrossing (r : RailNo) (current : Nat) (s : State) : Host.Outcome State Fault Refusal :=
  .next
    (if s.phase = .running then
      let t := s.setRail r { s.rail r with sense := current }
      match (s.rail r).above, (t.rail r).above with
      | false, true => rewriteRail r (takeRising r t)
      | true, false => s
      | false, false => t
      | true, true => t
    else s.setRail r { s.rail r with sense := current })

/-- FALLING_CROSSING (R50): the rail's current moves to a level that takes its comparator to not above. The end of a pause
at a hold-off time of 0 is a trigger of examination. A move that leaves the comparator as it was is stored and is no
crossing; during LOADING no crossing is acted on (R51). -/
def execFallingCrossing (r : RailNo) (current : Nat) (s : State) : Host.Outcome State Fault Refusal :=
  .next
    (if s.phase = .running then
      let t := s.setRail r { s.rail r with sense := current }
      match (s.rail r).above, (t.rail r).above with
      | true, false =>
        if (t.rail r).paused then
          let u := rewriteRail r (takeFalling r t)
          if (u.rail r).paused then u else examineRail r u
        else t
      | false, true => s
      | false, false => t
      | true, true => t
    else s.setRail r { s.rail r with sense := current })

/-- HOLD_OFF_END (R50): at the end of the hold-off PAUSED clears, RAIL_OVERDRAW_END is logged and the rail is examined. -/
def execHoldOffEnd (r : RailNo) (s : State) : Host.Outcome State Fault Refusal :=
  .next
    (if s.phase = .running ∧ (s.rail r).paused = true ∧ timerDue s.uptime (s.rail r).holdOffEnd = true then
      examineRail r (rewriteRail r (endPause r s))
    else s)

end Sys2Proof.Machine
end

