-- ==== Sys2Proof/Machine/Bays.lean ====
section
/-! DEFINITION. The bay controller's bays (chapters 1 and 3): presence, insertion, removal, surge end, faults, cool-off and retry
clearance, and the commands BAY_SCAN_SAMPLE, INSERTED, REMOVAL_CONFIRMED, SURGE_END, COOL_OFF_END and RETRY_CLEARANCE. -/

namespace Sys2Proof.Machine

/-! ### Changes of a bay (R6, R25) -/

/-- Put a bay into a state; a change of state is stamped with the uptime (section 1.7). -/
def moveBay (b : BayNo) (v : BayState) (s : State) : State :=
  s.setBay b
    { s.bay b with
      state := v
      changed := if v.code = (s.bay b).state.code then (s.bay b).changed else s.uptime }

/-- Put another state in place of the one a bay's timers and charges go by: the state of a seated bay, the saved state of a
LEAVING one (R13, R20). -/
def moveHeld (b : BayNo) (h : Seated) (s : State) : State := moveBay b ((s.bay b).state.withHeld h) s

/-- The uptime at which a bay's presence debounce may end, if it runs (R7). -/
def debounceEnd (s : State) (b : BayNo) : Option Uptime :=
  (s.bay b).debounce.map fun t => uptimeAfter t s.dl.desc.presenceDebounce

/-- Whether a bay's presence debounce runs and its time has passed (R7). -/
def debounceOver (s : State) (b : BayNo) : Bool := timerDue s.uptime (debounceEnd s b)

/-- Turn a powered bay off: switch off, charge zero, surge and active-since timers stopped, POWERED_OFF with its cause and the
state or saved state left (R12, R20, R56, R60). -/
def powerDown (b : BayNo) (h : Seated) (cause : OffCause) (s : State) : State :=
  let removed := s.charge b
  let s := s.setBay b { s.bay b with switch := false, surgeEnd := none, activeSince := none }
  logEvent (eventPoweredOff b cause h removed) (handCharge b 0 s)

/-! ### Presence, insertion and removal (R8 to R12) -/

/-- The arrival debounce ends: IDLE and INSERTED, and under AUTO on to QUEUED at the default priority (R9). -/
def insertBay (b : BayNo) (s : State) : State :=
  let s := moveBay b (.seated .idle) (s.setBay b { s.bay b with debounce := none })
  let s := publishBay b (logEvent (eventInserted b (s.bay b).policy (s.bayDesc b).drawer) s)
  match (s.bay b).policy with
  | .auto =>
    let s := moveBay b (.seated .queued) (s.setBay b { s.bay b with priority := (s.bayDesc b).priority })
    joinQueue b (publishBay b s)
  | .hold => s

/-- The removal of a LEAVING bay is confirmed, with its saved state h: the five changes of R12 in their order. -/
def removeBay (b : BayNo) (h : Seated) (s : State) : State :=
  let fell := h.powered && decide (0 < s.charge b)
  let s := if h.powered then powerDown b h .removal s else s
  let s := if h = .queued then leaveQueue b s else s
  let s := s.setBay b
    { s.bay b with
      surgeEnd := none, coolOffEnd := none, activeSince := none, retries := 0, priority := (s.bayDesc b).priority }
  let s := finishLink b .abortedRemoved s
  let s := moveBay b .absent (s.setBay b { s.bay b with debounce := none })
  let s := publishBay b (logEvent (eventRemoved b h.powered h) s)
  examineIf (fell || decide (h = .queued)) b s

/-- Presence is lost: LEAVING with the state saved, everything else left as it is (R10). -/
def losePresence (b : BayNo) (h : Seated) (s : State) : State :=
  let s := moveBay b (.leaving h) (s.setBay b { s.bay b with debounce := some s.uptime })
  examineIf (decide (h = .queued)) b (publishBay b s)

/-- Presence returns to a LEAVING bay: back to the saved state with PRESENCE_GLITCH (R11). -/
def regainPresence (b : BayNo) (h : Seated) (s : State) : State :=
  let s := moveBay b (.seated h) (s.setBay b { s.bay b with debounce := none })
  let s := logEvent (eventGlitch b (.seated h)) s
  let s := if h = .active then finishLink b .spunUp s else s
  examineIf (decide (h = .queued)) b (publishBay b s)

/-- A sample's presence level applied to one bay (R7 to R12). -/
def applyPresence (b : BayNo) (present : Bool) (s : State) : State :=
  match (s.bay b).state with
  | .disabled => s
  | .absent =>
    if present then publishBay b (moveBay b .arriving (s.setBay b { s.bay b with debounce := some s.uptime })) else s
  | .arriving =>
    if present then if debounceOver s b then insertBay b s else s
    else
      publishBay b
        (logEvent (eventGlitch b .absent) (moveBay b .absent (s.setBay b { s.bay b with debounce := none })))
  | .seated h => if present then s else losePresence b h s
  | .leaving h =>
    if present then regainPresence b h s else if debounceOver s b then removeBay b h s else s

/-! ### Faults (R54 to R60) -/

/-- Whether a bay's inrush blank has ended at this uptime (R54, R55). -/
def blankEnded (s : State) (b : BayNo) : Bool :=
  match (s.bay b).switchOn with
  | .absent => true
  | .admitted t => uptimeReached s.uptime (uptimeAfter t s.dl.desc.inrushBlank)
  | .reconciled _ => true

/-- A fault in a bay in SPINUP or ACTIVE: the isolation of R56, then COOLOFF within the retry limit (R57) or LOCKED past it
(R58). -/
def faultPowered (b : BayNo) (h : Seated) (s : State) : State :=
  let fell := decide (0 < s.charge b)
  let s := powerDown b h .fault s
  let s := s.setBay b { s.bay b with retries := (s.bay b).retries + 1 }
  let count := (s.bay b).retries
  let limit := (s.bayDesc b).retryLimit
  let s :=
    if count ≤ limit then
      let s := moveBay b (.seated .cooloff)
        (s.setBay b { s.bay b with coolOffEnd := some (uptimeAfter s.uptime (1000 * (s.bayDesc b).coolOff)) })
      logEvent (eventBayFault b count limit h false) s
    else
      finishLink b .abortedFault (logEvent (eventBayLocked b count limit) (moveBay b (.seated .locked) s))
  examineIf fell b (publishBay b s)

/-- A fault in a LEAVING bay with a powered saved state: powered down, saved state IDLE, the count left (R60). -/
def faultLeaving (b : BayNo) (h : Seated) (s : State) : State :=
  let fell := decide (0 < s.charge b)
  let s := moveBay b (.leaving .idle) (powerDown b h .fault s)
  let s := logEvent (eventBayFault b (s.bay b).retries (s.bayDesc b).retryLimit h true) s
  examineIf fell b (publishBay b s)

/-- A sample's fault flag applied to one bay: it counts in a powered bay whose inrush blank has ended (R54). -/
def applyFault (b : BayNo) (flag : Bool) (s : State) : State :=
  if flag = true ∧ blankEnded s b = true then
    match (s.bay b).state with
    | .disabled => s
    | .absent => s
    | .arriving => s
    | .seated h => if h.powered then faultPowered b h s else s
    | .leaving h => if h.powered then faultLeaving b h s else s
  else s

/-- One bay's part of a sample: its presence level, then its fault flag (R4). -/
def sampleBay (f : ScanFrame) (b : BayNo) (s : State) : State :=
  applyFault b (f.fault.getLsbD b.val) (applyPresence b (f.presence.getLsbD b.val) s)

/-- The switch enables that the bay table holds. -/
def heldEnables (s : State) : Vector Bool 96 := Vector.ofFn fun b => (s.bay b).switch

/-- Drive the enables the bay table holds out in one frame of the scan chains: the backplane registers apply them at its end, and
BSC_CLK and BSC_LOAD rest low after it (R4). -/
def driveEnables (s : State) : State := { s with bc := { s.bc with enables := heldEnables s, chain := ChainLines.low } }

/-! ### Timers (R13, R44, R59, R61) -/

/-- The surge of a bay ends: ACTIVE with its running charge, or the saved state ACTIVE; a lingering order of a seated bay
finishes SPUN_UP (R44, R13). -/
def endSurge (b : BayNo) (s : State) : State :=
  let fell := decide ((s.bay b).admittedRunning < s.charge b)
  let leaving := (s.bay b).state.isLeaving
  let s := moveHeld b .active (s.setBay b { s.bay b with surgeEnd := none, activeSince := some s.uptime })
  let s := handCharge b (s.bay b).admittedRunning s
  let s := logEvent (eventSpunUp b (railOf s b) (s.bay b).admittedRunning) s
  let s := if leaving then s else finishLink b .spunUp s
  examineIf fell b (publishBay b s)

/-- The cool-off of a bay ends: QUEUED, or the saved state QUEUED, and a join at the priority the field holds (R59, R13). -/
def endCoolOff (b : BayNo) (s : State) : State :=
  joinQueue b (publishBay b (moveHeld b .queued (s.setBay b { s.bay b with coolOffEnd := none })))

/-! ### The commands -/

/-- BAY_SCAN_SAMPLE (R4): the enables go out as the bay table holds them, and outside LOADING the inputs are applied bay by bay.
During LOADING the inputs have no effect (R184, R186). The enables go out first (DEDUCED, unsafe: notes/assumptions/33.md). -/
def execBayScanSample (f : ScanFrame) (s : State) : Host.Outcome State Fault Refusal :=
  .next
    (match s.phase with
    | .inReset => s
    | .loading => driveEnables s
    | .running => forBays (sampleBay f) (driveEnables s))

/-- INSERTED (R9): the arrival debounce of a bay ends, if the bay is ARRIVING and its debounce time has passed (R7). -/
def execInserted (b : BayNo) (s : State) : Host.Outcome State Fault Refusal :=
  .next
    (if s.phase = .running ∧ (s.bay b).state = .arriving ∧ debounceOver s b = true then insertBay b s else s)

/-- REMOVAL_CONFIRMED (R12): the absence debounce of a LEAVING bay ends, if its debounce time has passed (R7). -/
def execRemovalConfirmed (b : BayNo) (s : State) : Host.Outcome State Fault Refusal :=
  .next
    (match (s.bay b).state with
    | .leaving h => if s.phase = .running ∧ debounceOver s b = true then removeBay b h s else s
    | .disabled => s
    | .absent => s
    | .arriving => s
    | .seated _ => s)

/-- SURGE_END (R44, R13): a running surge timer reaches its end, in a bay in SPINUP or LEAVING with saved SPINUP. -/
def execSurgeEnd (b : BayNo) (s : State) : Host.Outcome State Fault Refusal :=
  .next
    (if s.phase = .running ∧ (s.bay b).state.held = some .spinup ∧ timerDue s.uptime (s.bay b).surgeEnd = true then
      endSurge b s
    else s)

/-- COOL_OFF_END (R59, R13): a running cool-off timer reaches its end, in a bay in COOLOFF or LEAVING with saved COOLOFF. -/
def execCoolOffEnd (b : BayNo) (s : State) : Host.Outcome State Fault Refusal :=
  .next
    (if s.phase = .running ∧ (s.bay b).state.held = some .cooloff ∧ timerDue s.uptime (s.bay b).coolOffEnd = true then
      endCoolOff b s
    else s)

/-- RETRY_CLEARANCE (R61): 60 s after active-since, in a bay that is ACTIVE or LEAVING with saved ACTIVE, the count goes to 0. -/
def execRetryClearance (b : BayNo) (s : State) : Host.Outcome State Fault Refusal :=
  .next
    (if s.phase = .running ∧ (s.bay b).state.held = some .active ∧
        timerDue s.uptime ((s.bay b).activeSince.map fun t => uptimeAfter t Config.retryClearance) = true then
      publishBay b (s.setBay b { s.bay b with retries := 0 })
    else s)

/-! ### The scan chain frame (R4) -/

/-- The level of BSC_LOAD in each clock period of a frame: high for the first, at which the registers capture, low for the 72 that
carry bits, and high for the last, at which they apply the enables (R4). -/
def chainStrobe : List Bool := true :: (List.replicate 72 false ++ [true])

/-- The enable bits of chain k in the order BSC_DOUTk sends them: bays 24k to 24k + 23, then 48 zero periods (R4). -/
def chainOutput (enables : Vector Bool 96) (k : Fin 4) : List Bool :=
  ((enables.toList.drop (24 * k.val)).take 24) ++ List.replicate 48 false

/-- The bits chain k brings in on BSC_DINk for a frame: presence, fault flag and switch feedback of each of its bays (R4). -/
def chainInput (f : ScanFrame) (k : Fin 4) : List Bool :=
  (List.range 24).flatMap fun i =>
    [f.presence.getLsbD (24 * k.val + i), f.fault.getLsbD (24 * k.val + i), f.feedback.getLsbD (24 * k.val + i)]

end Sys2Proof.Machine
end

