-- ==== Sys2Proof/Machine/Drawers.lean ====
section
/-! DEFINITION. The drawers (section 1.6): the line debounce, the drawer states and the settle timer, and the commands
DRAWER_LINE_SAMPLE, DRAWER_DEBOUNCE_END and SETTLE_TIMER_END. -/

namespace Sys2Proof.Machine

/-- Put a drawer into a state with its settle timer, stamped with the uptime, and rewrite its record (R23, R170). -/
def moveDrawer (d : DrawerNo) (v : DrawerState) (settle : Option Uptime) (s : State) : State :=
  rewriteDrawer d (s.setDrawer d { s.drawer d with state := v, settleEnd := settle, changed := s.uptime })

/-- Whether a bay belongs to a drawer. -/
def inDrawer (s : State) (d : DrawerNo) (b : BayNo) : Bool := decide ((s.bayDesc b).drawer = some d)

/-- The settle timer of a SETTLING drawer ends: CLOSED, DRAWER_CLOSED, and the rails with queued bays of the drawer are
examined (R23, R24). -/
def closeDrawer (d : DrawerNo) (s : State) : State :=
  let s := logEvent (eventDrawerClosed d) (moveDrawer d .closed none s)
  examineRailsOf (inDrawer s d) s

/-- A CLOSED drawer's level becomes low: OPEN, DRAWER_OPENED, and the rails with queued bays of the drawer are examined
(R23, R24). -/
def openDrawer (d : DrawerNo) (s : State) : State :=
  let s := logEvent (eventDrawerOpened d .closed) (moveDrawer d .opened none s)
  examineRailsOf (inDrawer s d) s

/-- An OPEN drawer's level becomes high: SETTLING with the settle timer started, and with a settle time of 0 on to CLOSED at
once (R23). -/
def settleDrawer (d : DrawerNo) (s : State) : State :=
  let s := moveDrawer d .settling (some (uptimeAfter s.uptime (1000 * s.dl.desc.drawerSettle))) s
  if s.dl.desc.drawerSettle = 0 then closeDrawer d s else s

/-- A drawer line's debounce has ended: the debounced level changes and the drawer follows the table of R23. -/
def changeDrawerLine (d : DrawerNo) (s : State) : State :=
  let level := !(s.drawer d).line.level
  let s := s.setDrawer d { s.drawer d with line := { level := level, debounce := none } }
  match (s.drawer d).state, level with
  | .closed, false => openDrawer d s
  | .opened, true => settleDrawer d s
  | .settling, false => moveDrawer d .opened none s
  | .closed, true => s
  | .opened, false => s
  | .settling, true => s

/-- One sample of a drawer line, by the debounce of R7 with 50 ms (R22). -/
def sampleDrawer (closed : BitVec 4) (d : DrawerNo) (s : State) : State :=
  let l := (s.drawer d).line
  if closed.getLsbD d.val = l.level then s.setDrawer d { s.drawer d with line := { l with debounce := none } }
  else
    match l.debounce with
    | none => s.setDrawer d { s.drawer d with line := { l with debounce := some s.uptime } }
    | some t => if uptimeReached s.uptime (uptimeAfter t Config.drawerDebounce) then changeDrawerLine d s else s

/-! ### The commands -/

/-- DRAWER_LINE_SAMPLE (R22); until the end of LOADING the drawer entries and their timers hold. -/
def execDrawerLineSample (closed : BitVec 4) (s : State) : Host.Outcome State Fault Refusal :=
  .next (if s.phase = .running then forFour (sampleDrawer closed) s else s)

/-- DRAWER_DEBOUNCE_END (R22, R23): a line's debounce ends, if it runs and its time has passed. -/
def execDrawerDebounceEnd (d : DrawerNo) (s : State) : Host.Outcome State Fault Refusal :=
  .next
    (if s.phase = .running ∧
        timerDue s.uptime ((s.drawer d).line.debounce.map fun t => uptimeAfter t Config.drawerDebounce) = true then
      changeDrawerLine d s
    else s)

/-- SETTLE_TIMER_END (R23): the settle timer of a SETTLING drawer reaches its end. -/
def execSettleTimerEnd (d : DrawerNo) (s : State) : Host.Outcome State Fault Refusal :=
  .next
    (if s.phase = .running ∧ (s.drawer d).state = .settling ∧ timerDue s.uptime (s.drawer d).settleEnd = true then
      closeDrawer d s
    else s)

end Sys2Proof.Machine
end

