-- ==== Sys2Proof/Machine/Temperature.lean ====
section
/-! DEFINITION. The temperature unit (chapter 4): report sampling, sensor reads, zone temperature, sight and flags, and the commands
TEMPERATURE_ROUND_START, SENSOR_READ_COMPLETE and SENSOR_READ_TIMEOUT. -/

namespace Sys2Proof.Machine

/-- Clamp a temperature to the valid range (scope, "Units"). -/
def clampTemp (t : Int) : Int := max Config.minTemp (min Config.maxTemp t)

/-! ### Reports (R72 to R75) -/

/-- The sampling entry of port x and bay b. -/
def State.report (s : State) (x : Port) (b : BayNo) : ReportSample :=
  match x with
  | .a => s.tu.reportsA[b]
  | .b => s.tu.reportsB[b]

/-- The temperature a report entry holds, a signed 16-bit number (R72). -/
def reportTemp (s : State) (x : Port) (b : BayNo) : BitVec 16 :=
  BitVec.ofNat 16 (leNat (Memory.readRun s.xm (reportBase x b) 2))

/-- The count a report entry holds (R72). -/
def reportCount (s : State) (x : Port) (b : BayNo) : Byte := Memory.read s.xm (reportBase x b + 2)

/-- The last change of an entry after its count has been compared with the last count seen (R73). -/
def lastChangeAfter (r : ReportSample) (count : Byte) (u : Uptime) : Option Uptime :=
  match r.lastCount with
  | none => none
  | some c => if c = count then r.lastChange else some u

/-- Whether an entry with this last change is fresh at an uptime: the uptime is before the last change plus the stale time
(R74). -/
def reportFresh (change : Option Uptime) (stale : Nat) (u : Uptime) : Bool :=
  match change with
  | none => false
  | some c => !uptimeReached u (uptimeAfter c (1000 * stale))

/-- The sample of one report entry at a round's start (R73, R74). -/
def sampleReport (s : State) (x : Port) (b : BayNo) : ReportSample :=
  let change := lastChangeAfter (s.report x b) (reportCount s x b) s.uptime
  { lastCount := some (reportCount s x b)
    lastChange := change
    fresh :=
      if reportFresh change s.dl.desc.staleTime s.uptime ∧ reportTemp s x b ≠ 0x8000 then
        some (clampTemp (reportTemp s x b).toInt)
      else none }

/-- Sample both report areas (R73). -/
def sampleReports (s : State) : State :=
  { s with
    tu :=
      { s.tu with
        reportsA := Vector.ofFn fun b => sampleReport s .a b
        reportsB := Vector.ofFn fun b => sampleReport s .b b } }

/-- The larger of two temperatures, or the one that is present (R75). -/
def hotter (a b : Option Int) : Option Int :=
  match a, b with
  | some v, some w => some (max v w)
  | some v, none => some v
  | none, some w => some w
  | none, none => none

/-- A bay's drive temperature by its state and the two fresh values (R75). -/
def driveTemperature (s : State) (b : BayNo) : Option Int :=
  match (s.bay b).state with
  | .disabled => none
  | .absent => none
  | .arriving => none
  | .seated _ => hotter (s.report .a b).fresh (s.report .b b).fresh
  | .leaving _ => hotter (s.report .a b).fresh (s.report .b b).fresh

/-- Hand a bay's drive temperature to the bay controller when it differs from the one last handed (R75). -/
def handDriveTemp (b : BayNo) (s : State) : State :=
  if driveTemperature s b = (s.bay b).driveTemp then s
  else publishBay b (s.setBay b { s.bay b with driveTemp := driveTemperature s b })

/-! ### Zones at the end of a round (R76 to R80) -/

/-- The term a sensor gives a zone (R76). -/
def sensorTerm (s : State) (z : ZoneNo) (n : SensorNo) : Option Int :=
  if (s.sensorDesc n).zone = z ∧ (s.sensor n).state = .fresh then (s.sensor n).value else none

/-- The term a bay gives a zone: its drive temperature less the zone's drive offset, raised to −80 (R76). -/
def bayTerm (s : State) (z : ZoneNo) (b : BayNo) : Option Int :=
  if (s.bayDesc b).zone = z then
    (s.bay b).driveTemp.map fun t => max Config.minTemp (t - (s.zoneDesc z).driveOffset)
  else none

/-- The terms of a zone with their sources, sensors first and each kind in ascending number (R76). -/
def zoneTerms (s : State) (z : ZoneNo) : List (Int × Hottest) :=
  (List.finRange 16).filterMap (fun n => (sensorTerm s z n).map fun t => (t, Hottest.sensor n)) ++
  (List.finRange 96).filterMap (fun b => (bayTerm s z b).map fun t => (t, Hottest.bay b))

/-- The first of the greatest terms of a list that goes on from a best so far (R76). -/
def greatest (best : Int × Hottest) (ts : List (Int × Hottest)) : Int × Hottest :=
  match ts with
  | [] => best
  | t :: rest => greatest (if best.1 < t.1 then t else best) rest

/-- A zone's temperature and hottest source (R76). -/
def zoneTemperature (s : State) (z : ZoneNo) : Option (Int × Hottest) :=
  match zoneTerms s z with
  | [] => none
  | t :: rest => some (greatest t rest)

/-- A warn or critical flag at a temperature against its threshold, with the hysteresis of 4 h°C (R78). -/
def flagAfter (before : Bool) (t threshold : Int) : Bool :=
  if before then !decide (t ≤ threshold - Config.flagHysteresis) else decide (threshold ≤ t)

/-- The temperature fields of a zone at the end of a round (R76 to R78). -/
def senseAfter (s : State) (z : ZoneNo) : ZoneSense :=
  match zoneTemperature s z with
  | none => { s.sense z with temp := none, hottest := .none, sight := .blind }
  | some t =>
    { temp := some t.1, hottest := t.2, sight := .seeing
      warn := flagAfter (s.sense z).warn t.1 (s.zoneDesc z).warn
      critical := flagAfter (s.sense z).critical t.1 (s.zoneDesc z).critical }

/-- The sight event of a zone at the end of a round (R77). -/
def sightEvents (z : ZoneNo) (before after : ZoneSense) : List Event :=
  match before.sight, after.sight with
  | .unknown, .blind => [eventZoneBlind z .unknown]
  | .seeing, .blind => [eventZoneBlind z .seeing]
  | .blind, .seeing => [eventZoneSees z (after.temp.getD 0) after.hottest]
  | .unknown, .seeing => []
  | .seeing, .seeing => []
  | .blind, .blind => []
  | _, .unknown => []

/-- The flag events of a zone at the end of a round: ZONE_WARN, then ZONE_CRITICAL (R78, R81). -/
def flagEvents (z : ZoneNo) (d : ZoneDesc) (before after : ZoneSense) : List Event :=
  (if before.warn = after.warn then [] else [eventZoneWarn z after.warn (after.temp.getD 0) d.warn]) ++
  (if before.critical = after.critical then []
    else [eventZoneCritical z after.critical (after.temp.getD 0) d.critical])

/-- The temperature unit hands a zone's five fields to the cooling controller when any of them changed (R80). -/
def handSense (z : ZoneNo) (s : State) : State :=
  if (s.zone z).sense = s.sense z then s else publishZone z (s.setZone z { s.zone z with sense := s.sense z })

/-- Whether a bay is mapped to a zone. -/
def inZone (s : State) (z : ZoneNo) (b : BayNo) : Bool := decide ((s.bayDesc b).zone = z)

/-- One zone's part of the end of a round: its fields, its events, the handing to the cooling controller, and for a change of
the critical flag the examination of the rails with queued bays of the zone (R76 to R81). -/
def endRoundZone (z : ZoneNo) (s : State) : State :=
  let before := s.sense z
  let after := senseAfter s z
  let s := s.setSense z after
  let s := logEvents (sightEvents z before after ++ flagEvents z (s.zoneDesc z) before after) s
  let s := handSense z s
  if before.critical = after.critical then s else examineRailsOf (inZone s z) s

/-- The end of a round: every zone in ascending number (R67). -/
def endRound (s : State) : State := forFour endRoundZone (s.setReading none)

/-- The first fitted sensor from a number on (R67). -/
def nextFitted (s : State) (from_ : Nat) : Option SensorNo :=
  (List.finRange 16).find? fun n => decide (from_ ≤ n.val) && (s.sensorDesc n).fitted

/-- Begin the read of the next fitted sensor, or end the round (R67). -/
def continueRound (from_ : Nat) (s : State) : State :=
  match nextFitted s from_ with
  | some n => s.setReading (some (n, s.uptime))
  | none => endRound s

/-- The start of a round: both report areas sampled, every drive temperature formed and handed, then the first read (R67). -/
def startRound (s : State) : State :=
  continueRound 0 (forBays handDriveTemp (sampleReports s))

/-! ### Sensor reads (R68 to R71) -/

/-- The bytes the sensor line carries for a read: the address with the write direction, the register pointer, and after a
repeated start the address with the read direction (R68). -/
def sensorReadBytes (d : SensorDesc) : List Byte := [byteOf (2 * d.address), 0x00, byteOf (2 * d.address + 1)]

/-- What passes on the sensor line from the start of a completed read to its end: both bytes come in after the repeated start, the
first acknowledged and the second not, and a missing acknowledge goes straight to the stop condition (R68). -/
def sensorReadTraffic (d : SensorDesc) (o : ReadOutcome) : List BusElement :=
  let writeAddress := byteOf (2 * d.address)
  let readAddress := byteOf (2 * d.address + 1)
  match o with
  | .addressNack .write => [.start, .send writeAddress false, .stop]
  | .pointerNack => [.start, .send writeAddress true, .send 0x00 false, .stop]
  | .addressNack .read =>
    [.start, .send writeAddress true, .send 0x00 true, .repeatedStart, .send readAddress false, .stop]
  | .good first second =>
    [.start, .send writeAddress true, .send 0x00 true, .repeatedStart, .send readAddress true, .receive first true,
      .receive second false, .stop]

/-- The recovery that follows a timeout: the data line released, nine clock pulses and a stop condition (R68). -/
def busRecovery : List BusElement := .releaseData :: (List.replicate 9 .clockPulse ++ [.stop])

/-- The raw reading of the two bytes of a good read, the first on the wire the more significant (R68). -/
def rawReading (first second : Byte) : BitVec 16 := first ++ second

/-- The value a raw reading gives before the clamp: floor(r / 8) h°C (R69). -/
def rawToTemp (raw : Int) : Int := raw / 8

/-- A good read of a sensor (R69, R70). -/
def goodRead (n : SensorNo) (raw : BitVec 16) (s : State) : State :=
  let v := s.sensor n
  let value := clampTemp (rawToTemp raw.toInt)
  let s := s.setSensor n
    { v with
      state := .fresh, failures := 0, lossLogged := false, value := some value,
      clamped := decide (value ≠ rawToTemp raw.toInt), raw := raw.toInt, lastGood := some s.uptime }
  let s := if v.state = .lost ∧ v.lossLogged = true then logEvent (eventSensorBack n value v.lastGood) s else s
  publishSensor n s

/-- A failed read of a sensor (R70). -/
def failedRead (n : SensorNo) (kind : FailureKind) (s : State) : State :=
  let v := s.sensor n
  let failures := min Config.sensorFailures (v.failures + 1)
  if v.state = .fresh ∧ failures = Config.sensorFailures then
    let s := s.setSensor n
      { v with state := .lost, failures := failures, lastFailure := kind, value := none, lossLogged := true }
    publishSensor n (logEvent (eventSensorLost n kind v.value) s)
  else publishSensor n (s.setSensor n { v with failures := failures, lastFailure := kind })

/-- The outcome of a completed read (R68). -/
def readOutcome (n : SensorNo) (o : ReadOutcome) (s : State) : State :=
  match o with
  | .good first second => goodRead n (rawReading first second) s
  | .addressNack _ => failedRead n .addressNack s
  | .pointerNack => failedRead n .pointerNack s

/-- Whether a read that started at an uptime has lasted 20 ms (R68). -/
def readOverdue (u start : Uptime) : Bool := uptimeReached u (uptimeAfter start Config.readTimeout)

/-- Whether an uptime is after the 20 ms of a read that started at another: the read can no longer complete (R68). -/
def readPastTimeout (u start : Uptime) : Bool := uptimeReached u (uptimeAfter start (Config.readTimeout + 1))

/-! ### The commands -/

/-- TEMPERATURE_ROUND_START (R67): a round starts when it is due and no round is under way; the next is due 1000 ms later. With no
fitted sensor the round ends at its start; a period of the same uptime counts it only when it stands later in the queue
(DESIGN CHOICE, unsafe: notes/assumptions/35.md). -/
def execTemperatureRoundStart (s : State) : Host.Outcome State Fault Refusal :=
  .next
    (if s.phase = .running ∧ s.tu.reading = none ∧ uptimeReached s.uptime s.tu.nextRound = true then
      startRound { s with tu := { s.tu with nextRound := uptimeAfter s.tu.nextRound Config.roundInterval } }
    else s)

/-- SENSOR_READ_COMPLETE (R68 to R70): the read under way completes within its 20 ms, then the next read begins or the round
ends. -/
def execSensorReadComplete (o : ReadOutcome) (s : State) : Host.Outcome State Fault Refusal :=
  .next
    (match s.tu.reading with
    | some r =>
      if s.phase = .running ∧ readPastTimeout s.uptime r.2 = false then continueRound (r.1.val + 1) (readOutcome r.1 o s)
      else s
    | none => s)

/-- SENSOR_READ_TIMEOUT (R68): the read under way has not completed 20 ms after its start; it fails with TIMEOUT, then the next
read begins or the round ends. -/
def execSensorReadTimeout (s : State) : Host.Outcome State Fault Refusal :=
  .next
    (match s.tu.reading with
    | some r =>
      if s.phase = .running ∧ readOverdue s.uptime r.2 = true then
        continueRound (r.1.val + 1) (failedRead r.1 .timeout s)
      else s
    | none => s)

end Sys2Proof.Machine
end

