-- ==== Sys2Proof/Machine/Cooling.lean ====
section
/-! DEFINITION. The cooling controller (chapter 5): the five duty steps, fan charges, the cooling period and the override expiry,
and the commands COOLING_PERIOD and OVERRIDE_EXPIRY. -/

namespace Sys2Proof.Machine

/-! ### The duty steps (R86 to R91) -/

/-- ceil(a / b) for b above 0. -/
def ceilDiv (a b : Nat) : Nat := (a + b - 1) / b

/-- The value of a curve at a temperature (R87). -/
def curveValue (ps : List CurvePoint) (t : Int) : Nat :=
  match ps with
  | [] => 0
  | [p] => p.duty
  | p :: q :: rest =>
    if t ≤ p.temp then p.duty
    else if t < q.temp then
      p.duty + ceilDiv ((q.duty - p.duty) * (t - p.temp).toNat) (q.temp - p.temp).toNat
    else curveValue (q :: rest) t

/-- Step 1: a zone's demand and its source (R86). -/
def zoneDemand (s : State) (z : ZoneNo) : Nat × DemandSource :=
  let v := s.zone z
  match v.override with
  | some o => (o.duty, .override)
  | none =>
    match v.sense.sight with
    | .seeing => (curveValue v.curve (v.sense.temp.getD 0), .curve)
    | .blind => (s.dl.desc.failsafeDuty, .failsafe)
    | .unknown => (s.dl.desc.failsafeDuty, .failsafe)

/-- Whether a fan is in a zone's fan set: fitted and mapped to it (R83). -/
def inFanSet (s : State) (z : ZoneNo) (f : FanNo) : Bool := (s.fanDesc f).fitted && decide ((s.fanDesc f).zone = z)

/-- The number of FAILED fans of a zone (R88). -/
def failedCount (s : State) (z : ZoneNo) : Nat :=
  ((List.finRange 12).filter fun f => inFanSet s z f && decide ((s.fan f).state = .failed)).length

/-- Step 2: the demand raised by the fault bump for each FAILED fan, saturating at 255 (R88). -/
def bumped (demand bump failed : Nat) : Nat := min 255 (demand + bump * failed)

/-- Whether the drawer-open floor applies to a zone: a drawer whose zone set contains it is OPEN or SETTLING (R89). -/
def drawerFloorApplies (s : State) (z : ZoneNo) : Bool :=
  (List.finRange 4).any fun d => (s.drawer d).zoneSet.getLsbD z.val && decide ((s.drawer d).state ≠ .closed)

/-- Whether the failsafe duty applies as a floor: no port is LIVE (R89). -/
def failsafeFloorApplies (s : State) : Bool := decide (s.pa.state ≠ .live) && decide (s.pb.state ≠ .live)

/-- Step 3: the target, the bumped demand lifted to each floor that applies (R89). -/
def zoneTarget (s : State) (z : ZoneNo) : Nat :=
  max (bumped (zoneDemand s z).1 (s.zoneDesc z).bump (failedCount s z))
    (max (if drawerFloorApplies s z then (s.zoneDesc z).drawerFloor else 0)
      (if failsafeFloorApplies s then s.dl.desc.failsafeDuty else 0))

/-- Step 4: a duty moved toward a target by at most the slew steps (R90). -/
def slewed (d target up down : Nat) : Nat :=
  if d < target then min target (d + up) else if target < d then max target (d - down) else d

/-- Step 5: the slewed duty clamped to [minimum duty, 255] (R91). -/
def clampedDuty (slew minDuty : Nat) : Nat := max minDuty (min 255 slew)

/-- A zone's entry after a cooling period (R86 to R91). -/
def periodZone (s : State) (z : ZoneNo) : Zone :=
  let d := s.zoneDesc z
  { s.zone z with
    demand := (zoneDemand s z).1
    source := (zoneDemand s z).2
    failedFans := failedCount s z
    drawerFloorInForce := drawerFloorApplies s z
    failsafeFloorInForce := failsafeFloorApplies s
    target := zoneTarget s z
    duty := clampedDuty (slewed (s.zone z).duty (zoneTarget s z) d.upStep d.downStep) d.minDuty
    lastPeriod := some s.uptime }

/-! ### Fan outputs and charges (R97 to R99) -/

/-- The charge of a fan at a duty: idle + ceil((full − idle) × d³ / 255³) for a fitted fan, 0 for an unfitted one (R98). -/
def fanCharge (d : FanDesc) (duty : Nat) : Nat :=
  if d.fitted then d.idle + ceilDiv ((d.full - d.idle) * duty ^ 3) 16581375 else 0

/-- The duty a fan is driven at: its zone's duty, or 0 for an unfitted fan (R97). -/
def fanDuty (s : State) (f : FanNo) : Nat := if (s.fanDesc f).fitted then (s.zone (s.fanDesc f).zone).duty else 0

/-- Drive every fan output at its duty (R85, R97). -/
def driveFans (s : State) : State := { s with cc := { s.cc with pwm := Vector.ofFn fun f => fanDuty s f } }

/-- The fan part of a rail for the duties the fans are driven at: the sum of the charges of its fans (R32). -/
def fanPartFor (s : State) (r : RailNo) : Nat :=
  ((List.finRange 12).map fun f => if (s.fanDesc f).rail = r then fanCharge (s.fanDesc f) (fanDuty s f) else 0).sum

/-- Replace a rail's fan part (R32). -/
def bookFans (r : RailNo) (s : State) : State := s.setRail r { s.rail r with fanPart := fanPartFor s r }

/-- Whether the duties the fans are driven at lower a fan charge on a rail from the one last handed, or its fan part (R32, R40,
R99). -/
def fanChargeFell (s : State) (r : RailNo) : Bool :=
  decide (fanPartFor s r < (s.rail r).fanPart) ||
    (List.finRange 12).any fun f =>
      decide ((s.fanDesc f).rail = r ∧ fanCharge (s.fanDesc f) (fanDuty s f) < (s.fan f).charge)

/-- The power sequencer takes the set of fan charges: every committed draw once, every over-limit condition once, each record
whose fields changed, and then one examination of each rail on which a fan charge fell (R32, R40, R99). -/
def handFanCharges (s : State) : State :=
  let fell := fanChargeFell s
  let s := forFour bookFans s
  let s := forFour evaluateOverLimit s
  let s := forFour publishRail s
  forFour (fun r t => if fell r then examineRail r t else t) s

/-- The cooling controller hands a fan's duty and charge to the fan monitor, which rewrites the record when one differs (R115,
R116). -/
def handFan (f : FanNo) (s : State) : State :=
  let duty := fanDuty s f
  let charge := fanCharge (s.fanDesc f) duty
  if (s.fan f).duty = duty ∧ (s.fan f).charge = charge then s
  else rewriteFanHanding f (s.setFan f { s.fan f with duty := duty, charge := charge })

/-- One cooling period: the zones, the outputs, the charges, the fan records and the zone records, in the order of R85. -/
def coolingPeriod (s : State) : State :=
  let s := forFour (fun z t => t.setZone z (periodZone s z)) s
  let s := driveFans s
  let s := handFanCharges s
  let s := forEach (List.finRange 12) handFan s
  forFour publishZone s

/-! ### The commands -/

/-- COOLING_PERIOD (R84, R85): taken when it is due; the next is due 1000 ms later. -/
def execCoolingPeriod (s : State) : Host.Outcome State Fault Refusal :=
  .next
    (if s.phase = .running ∧ uptimeReached s.uptime s.cc.nextPeriod = true then
      coolingPeriod { s with cc := { s.cc with nextPeriod := uptimeAfter s.cc.nextPeriod Config.coolingInterval } }
    else s)

/-- OVERRIDE_EXPIRY (R96): the override whose end uptime is reached ends; no duty is computed. -/
def execOverrideExpiry (z : ZoneNo) (s : State) : Host.Outcome State Fault Refusal :=
  .next
    (if s.phase = .running ∧ timerDue s.uptime ((s.zone z).override.map Override.endAt) = true then
      publishZone z (s.setZone z { s.zone z with override := none })
    else s)

end Sys2Proof.Machine
end

