-- ==== Sys2Proof/Machine/Fans.lean ====
section
/-! DEFINITION. The fan monitor (chapter 6): tach capture, speed and evaluations, and the commands TACH_EDGE, TACH_TIMEOUT and
FAN_EVALUATION. -/

namespace Sys2Proof.Machine

/-! ### Tach capture (R107 to R109) -/

/-- The µs from one moment, an uptime and the µs into its millisecond, to another (R105). -/
def elapsedMicros (fromMs : Uptime) (fromUs : Fin 1000) (toMs : Uptime) (toUs : Fin 1000) : Nat :=
  1000 * (toMs - fromMs).toNat + toUs.val - fromUs.val

/-- The reading of a fan's capture timer: 0 while WAITING, the time since the last accepted edge while TIMING (R105). -/
def captureTimer (c : Capture) (ms : Uptime) (us : Fin 1000) : Nat :=
  match c with
  | .waiting => 0
  | .timing m u => elapsedMicros m u ms us

/-- The speed of a period p with n pulses per revolution: floor(60 000 000 / (p × n)) (R108). -/
def rpmOf (p n : Nat) : Nat := 60000000 / (p * n)

/-- A fan's entry after the tach timeout (R109). -/
def timedOutFan (v : Fan) : Fan := { v with rpm := 0, period := none, capture := .waiting }

/-- A fan's entry after a rising edge at a moment (R107). An edge later than the timeout finds the timeout taken first (R109). -/
def edgeFan (v : Fan) (d : FanDesc) (blanking : Nat) (ms : Uptime) (us : Fin 1000) : Fan :=
  match v.capture with
  | .waiting => { v with capture := .timing ms us }
  | .timing m u =>
    let p := elapsedMicros m u ms us
    if p < blanking then v
    else if p ≤ Config.tachTimeout then { v with period := some p, rpm := rpmOf p d.pulses, capture := .timing ms us }
    else { timedOutFan v with capture := .timing ms us }

/-! ### Evaluations (R111 to R114) -/

/-- A fan's verdict at an evaluation: the entry after it, and the event it logs (R112 to R114). -/
def judge (f : FanNo) (v : Fan) (d : FanDesc) (graceOver : Bool) : Fan × List Event :=
  let running : Fan → Fan × List Event := fun v =>
    if v.rpm < d.minRpm then
      if v.count + 1 = Config.fanVerdicts then
        ({ v with state := .failed, count := 0 }, [eventFanFailed f v.rpm d.minRpm])
      else ({ v with count := v.count + 1 }, [])
    else ({ v with count := 0 }, [])
  match v.state with
  | .unfitted => (v, [])
  | .starting => if graceOver then running { v with state := .running, count := 0 } else ({ v with count := 0 }, [])
  | .running => running v
  | .failed =>
    if d.minRpm ≤ v.rpm then
      if v.count + 1 = Config.fanVerdicts then
        ({ v with state := .running, count := 0 }, [eventFanRecovered f v.rpm d.minRpm])
      else ({ v with count := v.count + 1 }, [])
    else ({ v with count := 0 }, [])

/-- Whether the grace of the fans is over: the uptime is at or after the end of LOADING plus 5000 ms (R112). -/
def graceOver (s : State) : Bool := uptimeReached s.uptime (uptimeAfter s.dl.epoch Config.fanGrace)

/-- One fan's part of an evaluation: the verdict, its event, then the record (R111, R116, R117). -/
def evaluateFan (f : FanNo) (s : State) : State :=
  if (s.fanDesc f).fitted then
    let j := judge f (s.fan f) (s.fanDesc f) (graceOver s)
    let s := s.setFan f { j.1 with lastEvaluation := some s.uptime }
    rewriteFan f (logEvents j.2 s)
  else s

/-! ### The commands -/

/-- TACH_EDGE (R107): a rising edge on a fitted fan's tach input outside LOADING (R106). -/
def execTachEdge (f : FanNo) (us : Fin 1000) (s : State) : Host.Outcome State Fault Refusal :=
  .next
    (if s.phase = .running ∧ (s.fanDesc f).fitted = true then
      s.setFan f (edgeFan (s.fan f) (s.fanDesc f) s.dl.desc.blankingTime s.uptime us)
    else s)

/-- TACH_TIMEOUT (R109): the capture timer of a TIMING capture reaches 2 s. -/
def execTachTimeout (f : FanNo) (us : Fin 1000) (s : State) : Host.Outcome State Fault Refusal :=
  .next
    (if s.phase = .running ∧ Config.tachTimeout ≤ captureTimer (s.fan f).capture s.uptime us then
      s.setFan f (timedOutFan (s.fan f))
    else s)

/-- FAN_EVALUATION (R111): taken when it is due, over all twelve fans; the next is due 1000 ms later. -/
def execFanEvaluation (s : State) : Host.Outcome State Fault Refusal :=
  .next
    (if s.phase = .running ∧ uptimeReached s.uptime s.fm.nextEvaluation = true then
      forEach (List.finRange 12) evaluateFan
        { s with fm := { s.fm with nextEvaluation := uptimeAfter s.fm.nextEvaluation Config.evaluationInterval } }
    else s)

end Sys2Proof.Machine
end

