-- ==== Sys2Proof/Machine/Indicator.lean ====
section
/-! DEFINITION. The indicator engine (chapter 7): pattern steps, layers, composition, the indicator line, and the commands
INDICATOR_REFRESH, LOADING_DARK_FRAME and LOCATE_EXPIRY. -/

namespace Sys2Proof.Machine

/-! ### Patterns (R120 to R123) -/

/-- The epoch time: the uptime less the uptime at which LOADING ended, modulo 2³² (R121). -/
def epochTime (s : State) : Nat := (s.uptime - s.dl.epoch).toNat

/-- The step time of a pattern in ms (R120). -/
def Pattern.stepTime (p : Pattern) : Nat := 50 * p.stepCode

/-- The number of steps of a pattern (R120). -/
def Pattern.length (p : Pattern) : Nat := 8 + p.lengthAdd

/-- The effective length of a pattern (R121). -/
def Pattern.effective (p : Pattern) : Nat := if p.stretch then 2 * p.length else p.length

/-- The step index of a pattern at an epoch time, shifted by half the loop in an alternate-phase bay (R121). -/
def Pattern.index (p : Pattern) (alt : Bool) (t : Nat) : Nat :=
  let k := t / p.stepTime % p.effective
  if alt then (k + p.effective / 2) % p.effective else k

/-- The place a pattern shows (R121). -/
def Pattern.place (p : Pattern) (alt : Bool) (t : Nat) : Nat :=
  if p.stretch then p.index alt t / 2 else p.index alt t

/-- The code a pattern shows (R121). -/
def Pattern.codeAt (p : Pattern) (alt : Bool) (t : Nat) : Fin 4 := p.steps.toList.getD (p.place alt t) 0

/-- Whether an epoch time is a step boundary of a pattern (R121). -/
def Pattern.boundary (p : Pattern) (t : Nat) : Bool := decide (t % p.stepTime = 0)

/-- The colour a non-zero code selects (R120). -/
def Pattern.colour (p : Pattern) (code : Fin 4) : Colour :=
  match code with
  | 1 => p.colour1
  | 2 => p.colour2
  | 3 => p.colour3
  | 0 => Colour.dark

/-- Pattern n's contents. -/
def State.pattern (s : State) (n : PatternNo) : Pattern := s.ie.patterns[n]

/-- Replace pattern n's pending contents. -/
def setPending (n : PatternNo) (v : Option Pattern) (s : State) : State :=
  { s with ie := { s.ie with pendingPatterns := s.ie.pendingPatterns.set n v } }

/-- The contents of pattern n after a refresh: its pending contents when the refresh is a step boundary of it (R123). -/
def patternAfter (s : State) (n : PatternNo) : Pattern :=
  match s.ie.pendingPatterns[n] with
  | some p => if (s.pattern n).boundary (epochTime s) then p else s.pattern n
  | none => s.pattern n

/-- The pending contents of pattern n after a refresh (R123). -/
def pendingAfter (s : State) (n : PatternNo) : Option Pattern :=
  if (s.pattern n).boundary (epochTime s) then none else s.ie.pendingPatterns[n]

/-- Apply the pending contents of every pattern whose step boundary this refresh is (R123, R132). -/
def applyPending (s : State) : State :=
  { s with
    ie :=
      { s.ie with
        patterns := Vector.ofFn fun n => patternAfter s n
        pendingPatterns := Vector.ofFn fun n => pendingAfter s n } }

/-! ### The layers of a bay (R124 to R128) -/

/-- Port x's layer of bay b. -/
def State.layer (s : State) (x : Port) (b : BayNo) : PatternNo :=
  match x with
  | .a => s.ie.layersA[b]
  | .b => s.ie.layersB[b]

/-- Replace port x's layer of bay b. -/
def setLayer (x : Port) (b : BayNo) (v : PatternNo) (s : State) : State :=
  match x with
  | .a => { s with ie := { s.ie with layersA := s.ie.layersA.set b v } }
  | .b => { s with ie := { s.ie with layersB := s.ie.layersB.set b v } }

/-- Bay b's locate entry. -/
def State.locate (s : State) (b : BayNo) : Locate := s.ie.locates[b]

/-- Replace bay b's locate entry. -/
def setLocate (b : BayNo) (v : Locate) (s : State) : State :=
  { s with ie := { s.ie with locates := s.ie.locates.set b v } }

/-- A map's entry for a state code. -/
def mapEntry (m : Vector PatternNo 10) (code : Nat) : PatternNo := m.toList.getD code 0

/-- The base pattern of a bay (R124). -/
def basePattern (s : State) (b : BayNo) : PatternNo :=
  if (s.bay b).state = .disabled ∨ drawerHome s b = true then mapEntry s.dl.desc.normalMap (s.bay b).state.code
  else mapEntry s.dl.desc.serviceMap (s.bay b).state.code

/-- The lower port layer of a bay, by its holder (R126). -/
def lowerLayer (s : State) (b : BayNo) : PatternNo :=
  match (s.bay b).holder with
  | some .a => s.layer .b b
  | some .b => s.layer .a b
  | none => s.layer .a b

/-- The upper port layer of a bay, by its holder (R126). -/
def upperLayer (s : State) (b : BayNo) : PatternNo :=
  match (s.bay b).holder with
  | some .a => s.layer .a b
  | some .b => s.layer .b b
  | none => s.layer .b b

/-- The urgent pattern of a bay, none when the layer is transparent (R128). -/
def urgentPattern (s : State) (b : BayNo) : Option PatternNo :=
  if (s.locate b).on then some s.dl.desc.locatePattern
  else if (s.bay b).state.held = some .locked then some s.dl.desc.faultPattern
  else none

/-! ### Composition (R131) -/

/-- floor((a + b) / 2) of two levels (R131). -/
def mixLevel (a b : Fin 16) : Fin 16 := Fin.ofNat 16 ((a.val + b.val) / 2)

/-- A layer's pattern laid over a colour: it leaves it, replaces it or blends with it (R131). -/
def layerOver (p : Pattern) (alt : Bool) (t : Nat) (below : Colour) : Colour :=
  let code := p.codeAt alt t
  if code = 0 then below
  else if p.blend then
    { green := mixLevel (p.colour code).green below.green, amber := mixLevel (p.colour code).amber below.amber }
  else p.colour code

/-- The composed colour of a bay: base, lower port layer, upper port layer, urgent layer over (0, 0) (R131). -/
def composeBay (s : State) (b : BayNo) : Colour :=
  let alt := (s.bayDesc b).altPhase
  let t := epochTime s
  let c := layerOver (s.pattern (basePattern s b)) alt t Colour.dark
  let c := layerOver (s.pattern (lowerLayer s b)) alt t c
  let c := layerOver (s.pattern (upperLayer s b)) alt t c
  match urgentPattern s b with
  | some n => layerOver (s.pattern n) alt t c
  | none => c

/-- All 96 composed colours. -/
def composeAll (s : State) : Vector Colour 96 := Vector.ofFn fun b => composeBay s b

/-- A level's four bits, the most significant first (R133). -/
def levelBits (v : Fin 16) : List Bool := [v.val.testBit 3, v.val.testBit 2, v.val.testBit 1, v.val.testBit 0]

/-- The 768 bits of a frame on the indicator line (R133). -/
def frameBits (cs : Vector Colour 96) : List Bool :=
  cs.toList.flatMap fun c => levelBits c.green ++ levelBits c.amber

/-- Hand a bay's shown colour to the bay controller when it differs from the one last handed (R134). -/
def handShown (cs : Vector Colour 96) (b : BayNo) (s : State) : State :=
  if cs[b] = (s.bay b).shown then s else publishBay b (s.setBay b { s.bay b with shown := cs[b] })

/-- The indicator line after a frame: IND_CLK rests low, the pulse of IND_LATCH is over (R133), and IND_DATA stays at the frame's
768th bit, bay 95's amber bit 0 (DESIGN CHOICE, unsafe: notes/assumptions/38.md). -/
def linesAfter (cs : Vector Colour 96) : IndicatorLines :=
  { clk := false, data := cs[95].amber.val.testBit 0, latch := false }

/-- Send a frame: the drivers latch its levels (R133). -/
def sendFrame (cs : Vector Colour 96) (s : State) : State :=
  { s with ie := { s.ie with lights := cs, lines := linesAfter cs } }

/-- One refresh: pending contents, composition, the frame, and the changed shown colours (R132). -/
def refresh (s : State) : State :=
  let s := applyPending s
  let cs := composeAll s
  forBays (handShown cs) (sendFrame cs s)

/-- Replace the uptime at which the next frame is due. -/
def setNextFrame (u : Uptime) (s : State) : State := { s with ie := { s.ie with nextFrame := u } }

/-! ### The commands -/

/-- INDICATOR_REFRESH (R132): taken after LOADING when it is due; the next is due 10 ms later. -/
def execIndicatorRefresh (s : State) : Host.Outcome State Fault Refusal :=
  .next
    (if s.phase = .running ∧ uptimeReached s.uptime s.ie.nextFrame = true then
      refresh (setNextFrame (uptimeAfter s.ie.nextFrame Config.refreshInterval) s)
    else s)

/-- LOADING_DARK_FRAME (R133): during LOADING, when it is due, a frame of all-zero levels; the next is due 10 ms later. -/
def execLoadingDarkFrame (s : State) : Host.Outcome State Fault Refusal :=
  .next
    (if s.phase = .loading ∧ uptimeReached s.uptime s.ie.nextFrame = true then
      sendFrame (Vector.replicate 96 Colour.dark) (setNextFrame (uptimeAfter s.ie.nextFrame Config.refreshInterval) s)
    else s)

/-- LOCATE_EXPIRY (R130): the end of a bay's locate is reached; the locate goes off and its end absent. -/
def execLocateExpiry (b : BayNo) (s : State) : Host.Outcome State Fault Refusal :=
  .next
    (if s.phase = .running ∧ (s.locate b).on = true ∧ timerDue s.uptime (s.locate b).endAt = true then
      setLocate b { on := false, endAt := none } s
    else s)

end Sys2Proof.Machine
end

