-- ==== Sys2Proof/Machine/Ports.lean ====
section
/-! DEFINITION. The port units (chapters 8 and 9): window accesses, the four registers, port states, heartbeat and silence, and
the commands POST_WRITE, NOTICE_WRITE, NOTICE_ENABLE_WRITE, HEARTBEAT, WINDOW_WRITE and SILENCE_TIMER_END. -/

namespace Sys2Proof.Machine

/-! ### The registers (R140 to R142) -/

/-- A 32-bit write to POST: the post bit of every slot written with 1 is set (R141). -/
def writePost (x : Port) (v : Word) (s : State) : State :=
  s.setPort x { s.port x with post := (s.port x).post ||| (v &&& postMask) }

/-- A port unit after the message that a write to NOTICE or NOTICE_ENABLE sends when the AND is left non-zero (R142): one, also when
the write is what made it non-zero (DESIGN CHOICE, unsafe: notes/assumptions/29.md). -/
def PortUnit.remind (p : PortUnit) : PortUnit := if p.asserted then { p with messages := p.messages + 1 } else p

/-- A 32-bit write to NOTICE: every bit written with 1 is cleared (R141, R142). -/
def writeNotice (x : Port) (v : Word) (s : State) : State :=
  s.setPort x ({ s.port x with notice := (s.port x).notice &&& ~~~v } : PortUnit).remind

/-- A 32-bit write to NOTICE_ENABLE: bits 0 to 29 are replaced (R141, R142). -/
def writeEnable (x : Port) (v : Word) (s : State) : State :=
  s.setPort x ({ s.port x with enable := v &&& noticeMask } : PortUnit).remind

/-- Clear the post bit of a slot (R141, R145). -/
def clearPost (x : Port) (n : SlotNo) (s : State) : State :=
  s.setPort x { s.port x with post := (s.port x).post &&& ~~~(slotBit n) }

/-- Whether the post bit of a slot is set. -/
def posted (s : State) (x : Port) (n : SlotNo) : Bool := (s.port x).post.getLsbD n.val

/-! ### Heartbeats (R160 to R162) -/

/-- The silence timer's end for a heartbeat at an uptime, stopped when the timeout is 0 (R160). -/
def silenceEndFrom (s : State) : Option Uptime :=
  if s.dl.desc.heartbeatTimeout = 0 then none else some (uptimeAfter s.uptime (1000 * s.dl.desc.heartbeatTimeout))

/-- A heartbeat taken outside LOADING (R160, R166). Posts that wait stay as they are (DESIGN CHOICE, unsafe:
notes/assumptions/44.md). -/
def takeHeartbeat (x : Port) (s : State) : State :=
  match (s.port x).state with
  | .live => s.setPort x { s.port x with silenceEnd := silenceEndFrom s }
  | left =>
    let s := s.setPort x { s.port x with state := .live, silenceEnd := silenceEndFrom s }
    let s := logEvent (eventPortLive x left) s
    rewriteLive (noticePort (otherPort x) noticePeer s)

/-- A 32-bit write to HEARTBEAT: recorded during LOADING, taken outside it (R160, R162). -/
def writeHeartbeat (x : Port) (s : State) : State :=
  match s.phase with
  | .inReset => s
  | .loading => s.setPort x { s.port x with heartbeatSeen := true }
  | .running => takeHeartbeat x s

/-- What a read of HEARTBEAT returns (R161). -/
def readHeartbeat (s : State) (x : Port) : Word :=
  if s.phase ≠ .running then 0
  else if s.dl.desc.heartbeatTimeout = 0 then 0xFFFFFFFF
  else
    match (s.port x).silenceEnd with
    | some e => if uptimeReached s.uptime e then 0 else e - s.uptime
    | none => 0

/-! ### The window (R137 to R139) -/

/-- Whether an offset is in an area of the window that port x may write (R137). -/
def writableBy (x : Port) (a : Nat) : Bool :=
  match x with
  | .a => decide ((0x0100 ≤ a ∧ a < 0x0400) ∨ (0x0700 ≤ a ∧ a < 0x0880))
  | .b => decide ((0x0400 ≤ a ∧ a < 0x0700) ∨ (0x0880 ≤ a ∧ a < 0x0A00))

/-- Store the bytes of a port write that fall in the port's own areas; the others are discarded (R138). -/
def storeOwn (x : Port) (a : Nat) (bs : List Byte) (s : State) : State :=
  match bs with
  | [] => s
  | v :: vs => storeOwn x (a + 1) vs (if writableBy x a then s.store a [v] else s)

/-- The bytes of a port write, little-endian. -/
def writeBytes (d : WriteData) : List Byte :=
  match d with
  | .byte v => [v]
  | .half v => le16 v.toNat
  | .word v => le32 v.toNat

/-- The place of the register block (R137). -/
def registerBase : Nat := 0x7FF0

/-- A port write decoded by its offset: a 32-bit write to a register is that register's, a narrower one to the register block
is discarded, and any other goes to the exchange memory (R138, R139). -/
def writeWindow (x : Port) (a : Nat) (d : WriteData) (s : State) : State :=
  match d, a with
  | .word v, 0x7FF0 => writePost x v s
  | .word v, 0x7FF4 => writeNotice x v s
  | .word v, 0x7FF8 => writeEnable x v s
  | .word _, 0x7FFC => writeHeartbeat x s
  | _, _ => storeOwn x a (writeBytes d) s

/-- What a 32-bit read of a register returns (R140, R161). -/
def readRegister (s : State) (x : Port) (a : Nat) : Word :=
  match a with
  | 0x7FF0 => (s.port x).post
  | 0x7FF4 => (s.port x).notice
  | 0x7FF8 => (s.port x).enable
  | 0x7FFC => readHeartbeat s x
  | _ => 0

/-- The byte at an address of port x's window that a read of n bytes from a on returns: the exchange memory below 0x3000, 0 up to the
register block, and there the byte of a register whose whole 32-bit word the read covers, or 0 (R138, R139). -/
def windowByte (s : State) (x : Port) (a n k : Nat) : Byte :=
  if k < 0x3000 then Memory.read s.xm k
  else if registerBase ≤ k ∧ a ≤ k / 4 * 4 ∧ k / 4 * 4 + 4 ≤ a + n then
    byteOf ((readRegister s x (k / 4 * 4)).toNat / 256 ^ (k % 4))
  else 0

/-- What a read of n bytes of port x's window from offset a on returns. A read over several words is the series of its single-word
reads (R139), and none has an effect. -/
def readWindow (s : State) (x : Port) (a n : Nat) : List Byte := (List.range n).map fun i => windowByte s x a n (a + i)

/-! ### Silence (R163, R164) -/

/-- Release every claim of a port, bay by bay (R163). -/
def releaseClaims (x : Port) (s : State) : State :=
  forBays
    (fun b t => if (t.bay b).holder = some x then publishBay b (t.setBay b { t.bay b with holder := none }) else t) s

/-- Set a port's layer of all 96 bays to 0 (R127). -/
def clearLayers (x : Port) (s : State) : State :=
  match x with
  | .a => { s with ie := { s.ie with layersA := Vector.replicate 96 0 } }
  | .b => { s with ie := { s.ie with layersB := Vector.replicate 96 0 } }

/-- The state byte of a slot. -/
def slotState (s : State) (x : Port) (n : SlotNo) : Byte := Memory.read s.xm (slotBase x n)

/-- Drop the post of a slot with STRAY_POST (R145). -/
def strayPost (x : Port) (n : SlotNo) (taken : Bool) (s : State) : State :=
  logEvent (eventStrayPost x n (slotState s x n) taken) (clearPost x n s)

/-- Finish a slot's lingering order, if it holds one, with PORT_SILENT (R164). -/
def silenceLingering (x : Port) (n : SlotNo) (s : State) : State :=
  match lingeringOf s x n with
  | some c => endLingering c .portSilent s
  | none => s

/-- The post of one slot at its port's silence: a POSTED slot is taken and finished PORT_SILENT, another post is dropped (R164). -/
def silencePost (x : Port) (n : SlotNo) (s : State) : State :=
  if posted s x n then
    if slotState s x n = slotPosted then
      finishSlot x n (plain .portSilent) (clearPost x n (s.store (slotBase x n) [slotTaken]))
    else strayPost x n false s
  else s

/-- How many claims a silence of port x releases (R163). -/
def claimCount (s : State) (x : Port) : Nat :=
  ((List.finRange 96).filter fun b => (s.bay b).holder = some x).length

/-- How many orders a silence of port x finishes: its lingering orders, and its posted slots that hold POSTED and no lingering
order (R163). -/
def silencedOrders (s : State) (x : Port) : Nat :=
  ((List.finRange 24).filter fun n => (lingeringOf s x n).isSome).length +
  ((List.finRange 24).filter fun n =>
    posted s x n && decide (slotState s x n = slotPosted) && (lingeringOf s x n).isNone).length

/-- A LIVE port falls silent, with the consequences of R163 in their order. The posts it finishes or drops leave order intake's
turn as it was (DEDUCED, unsafe: notes/assumptions/16.md). -/
def fallSilent (x : Port) (s : State) : State :=
  let claims := claimCount s x
  let orders := silencedOrders s x
  let s := rewriteLive (s.setPort x { s.port x with state := .silent, silenceEnd := none })
  let s := logEvent (eventPortSilent x claims orders) s
  let s := noticePort (otherPort x) noticePeer s
  let s := releaseClaims x s
  let s := clearLayers x s
  let s := forEach (List.finRange 24) (silenceLingering x) s
  forEach (List.finRange 24) (silencePost x) s

/-! ### The commands -/

/-- POST_WRITE (R141), accepted during LOADING as in normal work (R145). -/
def execPostWrite (x : Port) (v : Word) (s : State) : Host.Outcome State Fault Refusal :=
  .next (if s.phase = .inReset then s else writePost x v s)

/-- NOTICE_WRITE (R141, R142). -/
def execNoticeWrite (x : Port) (v : Word) (s : State) : Host.Outcome State Fault Refusal :=
  .next (if s.phase = .inReset then s else writeNotice x v s)

/-- NOTICE_ENABLE_WRITE (R141, R142). -/
def execNoticeEnableWrite (x : Port) (v : Word) (s : State) : Host.Outcome State Fault Refusal :=
  .next (if s.phase = .inReset then s else writeEnable x v s)

/-- HEARTBEAT (R160, R162): a write of any value. -/
def execHeartbeat (x : Port) (_v : Word) (s : State) : Host.Outcome State Fault Refusal :=
  .next (writeHeartbeat x s)

/-- WINDOW_WRITE (R138, R139). -/
def execWindowWrite (x : Port) (offset : BitVec 15) (d : WriteData) (s : State) : Host.Outcome State Fault Refusal :=
  .next (if s.phase = .inReset then s else writeWindow x offset.toNat d s)

/-- SILENCE_TIMER_END (R163): the silence timer of a LIVE port reaches its end. -/
def execSilenceTimerEnd (x : Port) (s : State) : Host.Outcome State Fault Refusal :=
  .next
    (if s.phase = .running ∧ (s.port x).state = .live ∧ timerDue s.uptime (s.port x).silenceEnd = true then
      fallSilent x s
    else s)

end Sys2Proof.Machine
end

