-- ==== Sys2Proof/Machine/Orders.lean ====
section
/-! DEFINITION. Order intake (chapter 8) and what each order kind does at its owner: the take of posts, routing and finishing,
and the commands TAKE_POST, WAIT_LIMIT_EXPIRY and the fourteen order kinds of R154. -/

namespace Sys2Proof.Machine

/-! ### Claims (R156 to R158) -/

/-- Whether a bay is held by the other port than x. -/
def heldElsewhere (s : State) (x : Port) (b : BayNo) : Bool := decide ((s.bay b).holder = some (otherPort x))

/-- Whether a bay is DISABLED. -/
def isDisabled (s : State) (b : BayNo) : Bool := decide ((s.bay b).state = .disabled)

/-- Replace a bay's holder; a bay whose holder changes has its record rewritten (R155). -/
def setHolder (h : Option Port) (b : BayNo) (s : State) : State := publishBay b (s.setBay b { s.bay b with holder := h })

/-- A result that names a bay in byte 25 (R156 to R158). -/
def naming (r : Result) (b : BayNo) : Answer := { result := r, data := [byteOf b.val] }

/-- What CLAIM_BAYS does over a range (R156). -/
def decideClaim (x : Port) (range : List BayNo) (s : State) : State × Answer :=
  match firstIn range (isDisabled s) with
  | some b => (s, naming .badTarget b)
  | none =>
    match firstIn range (heldElsewhere s x) with
    | some b => (s, naming .heldElsewhere b)
    | none =>
      let gained := range.filter fun b => (s.bay b).holder = none
      if gained = [] then (s, plain .already)
      else (forEach gained (setHolder (some x)) s, { result := .ok, data := [byteOf gained.length] })

/-- What RELEASE_BAYS does over a range (R157). -/
def decideRelease (x : Port) (range : List BayNo) (s : State) : State × Answer :=
  match firstIn range (heldElsewhere s x) with
  | some b => (s, naming .notHeld b)
  | none =>
    let freed := range.filter fun b => (s.bay b).holder = some x
    (forEach freed (setHolder none) s, { result := .ok, data := [byteOf freed.length] })

/-- The bays an order of a kind names for the claim check: one for kinds 0x03 to 0x05, the range for 0x06 (R158). -/
def claimRange (kind : Byte) (args : Vector Byte 20) : List BayNo :=
  match kind.toNat with
  | 0x03 => [bayOf (argByte args 4)]
  | 0x04 => [bayOf (argByte args 4)]
  | 0x05 => [bayOf (argByte args 4)]
  | 0x06 => bayRange (argByte args 4) (argByte args 5)
  | _ => []

/-! ### BAY_POWER_ON (R18, R19) -/

/-- The profile a BAY_POWER_ON leaves in a bay: the requested one, or the bay's own for 0xFF (R18). -/
def requestedProfile (profile : Nat) (old : ProfileNo) : ProfileNo := if profile = 0xFF then old else Fin.ofNat 8 profile

/-- Apply the profile, the priority and the lingering link of a BAY_POWER_ON to a bay's fields (R18, R19). -/
def applyPowerOn (b : BayNo) (priority : Fin 4) (profile : ProfileNo) (link : Option (Port × SlotNo)) (s : State) : State :=
  s.setBay b { s.bay b with priority := priority, profile := profile, link := link }

/-- What an accepted BAY_POWER_ON does to a bay with a settled drive, by its state (R18). The link is the one the bay holds
after it. A changed profile of a QUEUED bay has its rail examined (R6). -/
def powerOnSeated (b : BayNo) (h : Seated) (priority : Fin 4) (profile : ProfileNo) (link : Option (Port × SlotNo))
    (s : State) : State × Result :=
  let old := s.bay b
  let t := applyPowerOn b priority profile link s
  match h with
  | .idle => (joinQueue b (publishBay b (moveBay b (.seated .queued) t)), .ok)
  | .queued =>
    if old.priority = priority then (examineIf (decide (old.profile ≠ profile)) b (publishBay b t), .already)
    else (moveInQueue b (publishBay b t), .ok)
  | .spinup => (publishBay b t, .already)
  | .active => (publishBay b t, .already)
  | .cooloff => (publishBay b t, .already)
  | .locked => (s, .bayLocked)

/-- The context of port x and slot n made a lingering order's: its wait limit, and its expiry counted from the take (R147,
R151). -/
def startLinger (x : Port) (n : SlotNo) (limit : Nat) (s : State) : State :=
  s.setContexts
    (s.oi.contexts.map fun c =>
      if c.port = x ∧ c.slot = n then
        { c with
          linger := some { limit := limit, expiry := if limit = 0 then none else some (uptimeAfter c.takenAt (1000 * limit)) } }
      else c)

/-- An answer to a power order: the bay's state code and queue place as they stand (R17). -/
def bayAnswer (r : Result) (b : BayNo) (s : State) : State × Option Answer := (s, some { result := r, data := bayData s b })

/-- What BAY_POWER_ON does at the bay controller (R18, R19); no answer when the order lingers. -/
def decidePowerOn (x : Port) (n : SlotNo) (b : BayNo) (priority : Fin 4) (profile : Nat) (wait : Bool) (limit : Nat)
    (s : State) : State × Option Answer :=
  match (s.bay b).state with
  | .disabled => bayAnswer .bayDisabled b s
  | .absent => bayAnswer .bayEmpty b s
  | .arriving => bayAnswer .bayEmpty b s
  | .leaving _ => bayAnswer .bayEmpty b s
  | .seated h =>
    let p := requestedProfile profile (s.bay b).profile
    if h = .locked then bayAnswer .bayLocked b s
    else if wait = false then
      let o := powerOnSeated b h priority p (s.bay b).link s
      bayAnswer o.2 b o.1
    else if (s.bay b).link.isSome then bayAnswer .busy b s
    else if h = .active then bayAnswer .spunUp b (publishBay b (applyPowerOn b priority p (s.bay b).link s))
    else ((powerOnSeated b h priority p (some (x, n)) (startLinger x n limit s)).1, none)

/-! ### BAY_POWER_OFF, CLEAR_BAY_FAULT and SET_BAY_POLICY (R16, R20, R62) -/

/-- Take a settled drive's bay, or a LEAVING bay's saved state, to IDLE as BAY_POWER_OFF does (R20). -/
def powerOffHeld (b : BayNo) (h : Seated) (s : State) : State × Result :=
  match h with
  | .idle => (s, .already)
  | .locked => (s, .already)
  | .queued => (moveHeld b .idle (leaveQueue b s), .ok)
  | .spinup => (moveHeld b .idle (powerDown b .spinup .order s), .ok)
  | .active => (moveHeld b .idle (powerDown b .active .order s), .ok)
  | .cooloff => (moveHeld b .idle (s.setBay b { s.bay b with coolOffEnd := none }), .ok)

/-- BAY_POWER_OFF carried out on a bay whose state, or saved state, is h: the change, the end of a lingering order with
ABORTED_OFF, the record, and last the examination that a leave or a fall of the charge calls for (R14, R20, R65). -/
def carryPowerOff (b : BayNo) (h : Seated) (s : State) : State × Result :=
  let fell := decide (h = .queued) || (h.powered && decide (0 < s.charge b))
  let o := powerOffHeld b h s
  (examineIf fell b (publishBay b (finishLink b .abortedOff o.1)), o.2)

/-- What BAY_POWER_OFF does at the bay controller (R20). -/
def decidePowerOff (b : BayNo) (s : State) : State × Option Answer :=
  match (s.bay b).state with
  | .disabled => bayAnswer .bayDisabled b s
  | .absent => bayAnswer .bayEmpty b s
  | .arriving => bayAnswer .bayEmpty b s
  | .seated h =>
    let o := carryPowerOff b h s
    bayAnswer o.2 b o.1
  | .leaving h =>
    let o := carryPowerOff b h s
    bayAnswer o.2 b o.1

/-- Set a bay's retry count to 0. -/
def clearRetries (b : BayNo) (s : State) : State := s.setBay b { s.bay b with retries := 0 }

/-- CLEAR_BAY_FAULT carried out on a bay by its state or saved state (R62). -/
def clearHeld (x : Port) (b : BayNo) (held : Option Seated) (s : State) : State × Result :=
  let before := s.bay b
  let t := clearRetries b s
  match held with
  | some .locked =>
    (publishBay b (logEvent (eventFaultCleared x b before.state before.retries) (moveHeld b .idle t)), .ok)
  | some .cooloff => (publishBay b (moveHeld b .idle (t.setBay b { t.bay b with coolOffEnd := none })), .ok)
  | some .idle => (publishBay b t, .already)
  | some .queued => (publishBay b t, .already)
  | some .spinup => (publishBay b t, .already)
  | some .active => (publishBay b t, .already)
  | none => (publishBay b t, .already)

/-- What CLEAR_BAY_FAULT does at the bay controller, with the state after and the count before as result data (R62). -/
def decideClear (x : Port) (b : BayNo) (s : State) : State × Answer :=
  let count := (s.bay b).retries
  let o := if (s.bay b).state = .disabled then (s, Result.bayDisabled) else clearHeld x b (s.bay b).state.held s
  (o.1, { result := o.2, data := [byteOf (o.1.bay b).state.code, byteOf count] })

/-- The policy an order names: 0 AUTO, 1 HOLD (R149). -/
def policyOf (n : Nat) : Policy := if n = 0 then .auto else .hold

/-- Replace a bay's policy. -/
def setPolicy (p : Policy) (b : BayNo) (s : State) : State := publishBay b (s.setBay b { s.bay b with policy := p })

/-- What SET_BAY_POLICY does over a range (R16). A refusal names its DISABLED bay in byte 25, as R156 has it for CLAIM_BAYS (DESIGN
CHOICE, unsafe: notes/assumptions/40.md). -/
def decidePolicy (range : List BayNo) (p : Policy) (s : State) : State × Answer :=
  match firstIn range (isDisabled s) with
  | some b => (s, naming .badTarget b)
  | none =>
    if range.all (fun b => decide ((s.bay b).policy = p)) then (s, plain .already)
    else (forEach range (setPolicy p) s, plain .ok)

/-! ### SET_PROFILE and SET_RAIL_LIMIT (R46, R47) -/

/-- Replace profile p's entry. -/
def putProfile (p : ProfileNo) (v : Profile) (s : State) : State :=
  { s with ps := { s.ps with profiles := s.ps.profiles.set p v } }

/-- Whether a bay names a profile. -/
def namesProfile (s : State) (p : ProfileNo) (b : BayNo) : Bool := decide ((s.bay b).profile = p)

/-- What SET_PROFILE does at the power sequencer (R46). -/
def decideProfile (p : ProfileNo) (v : Profile) (s : State) : State × Answer :=
  if v.surgeTime < 1 ∨ 600 < v.surgeTime ∨ v.surge < v.running then (s, plain .badArgument)
  else if s.profile p = v then (s, plain .already)
  else (examineRailsOf (namesProfile s p) (rewriteProfiles (putProfile p v s)), plain .ok)

/-- The two limits SET_RAIL_LIMIT uses: each clamped to its ceiling, then the single limit to the dual one (R47). -/
def usedLimits (d : RailDesc) (dual single : Nat) : Nat × Nat :=
  (min dual d.dualCeiling, min (min single d.singleCeiling) (min dual d.dualCeiling))

/-- What SET_RAIL_LIMIT does at the power sequencer (R47). -/
def decideLimit (r : RailNo) (dual single : Nat) (s : State) : State × Answer :=
  let used := usedLimits (s.railDesc r) dual single
  let old := s.rail r
  let t := publishRail r (recomputeLimit r (s.setRail r { old with dual := used.1, single := used.2 }))
  (t,
    { result :=
        if used ≠ (dual, single) then .okClamped else if used = (old.dual, old.single) then .already else .ok
      data := le16 used.1 ++ le16 used.2 ++ le16 (t.rail r).admitLimit })

/-! ### SET_INDICATION, LOCATE and LOAD_PATTERN (R122, R125, R129) -/

/-- What SET_INDICATION does at the indicator engine (R125). -/
def decideIndication (x : Port) (range : List BayNo) (pattern : Nat) (s : State) : State × Answer :=
  if 31 < pattern then (s, plain .badArgument)
  else
    let changed := range.filter fun b => s.layer x b ≠ Fin.ofNat 32 pattern
    (forEach range (fun b t => setLayer x b (Fin.ofNat 32 pattern) t) s,
      { result := if changed = [] then .already else .ok, data := [byteOf changed.length] })

/-- The result data of LOCATE: the locate, then its end or 0 (R129). -/
def locateAnswer (r : Result) (v : Locate) : Answer := { result := r, data := byteOf (bit v.on) :: le32 (uptimeCode v.endAt) }

/-- What LOCATE does at the indicator engine (R129). -/
def decideLocate (b : BayNo) (action duration : Nat) (s : State) : State × Answer :=
  let old := s.locate b
  if 1 < action ∨ (action = 1 ∧ 3600 < duration) then (s, plain .badArgument)
  else
    let new : Locate :=
      if action = 0 then { on := false, endAt := none }
      else { on := true, endAt := if duration = 0 then none else some (uptimeAfter s.uptime (1000 * duration)) }
    let unchanged :=
      if action = 0 then old.on = false else old.on = true ∧ old.endAt = none ∧ duration = 0
    if unchanged then (s, locateAnswer .already old) else (setLocate b new s, locateAnswer .ok new)

/-- The contents that will be in force after a pattern's next step boundary (R122). -/
def patternToCome (s : State) (n : PatternNo) : Pattern :=
  match s.ie.pendingPatterns[n] with
  | some p => p
  | none => s.pattern n

/-- How many ms after a refresh at an epoch time the first refresh falls whose epoch time is a multiple of a step time, the refresh
itself included. Refreshes fall 10 ms apart, and the epoch time returns to 0 at 2³² (R121, R132), so past that moment the
refreshes stand at other epoch times; six turns of the count bring them back to multiples of 10. -/
def boundaryDelay (fuel t step : Nat) : Nat :=
  match fuel with
  | 0 => 0
  | n + 1 =>
    let next := ceilDiv t step * step
    if t % Config.refreshInterval = 0 ∧ next < 2 ^ 32 then next - t
    else
      let rest := ceilDiv (2 ^ 32 - t) Config.refreshInterval * Config.refreshInterval
      rest + boundaryDelay n (t + rest - 2 ^ 32) step

/-- The uptime of the refresh at which pending contents of a pattern take effect: the first refresh to come whose epoch time is
a step boundary of the present step code (R123; DEDUCED, unsafe: notes/assumptions/20.md). -/
def effectUptime (s : State) (n : PatternNo) : Uptime :=
  uptimeAfter s.ie.nextFrame (boundaryDelay 6 (s.ie.nextFrame - s.dl.epoch).toNat (s.pattern n).stepTime)

/-- Whether a LOAD_PATTERN's length add, step code or a colour level lies outside its range (R122). -/
def badPattern (g : Nat → Nat) : Bool :=
  decide (16 < g 0) || decide (g 1 < 1 ∨ 20 < g 1) || (List.range 6).any fun k => decide (15 < g (3 + k))

/-- What LOAD_PATTERN does at the indicator engine; `g` gives the order's bytes from the length add on (R122). -/
def decidePattern (n : PatternNo) (g : Nat → Nat) (s : State) : State × Answer :=
  let p := patternFrom g
  if n = 0 then (s, plain .badTarget)
  else if badPattern g then (s, plain .badArgument)
  else if p = patternToCome s n then
    (s,
      { result := .already
        data := byteOf p.effective :: (if s.ie.pendingPatterns[n].isSome then le32 (effectUptime s n).toNat else zeros 4) })
  else (setPending n (some p) s, { result := .ok, data := byteOf p.effective :: le32 (effectUptime s n).toNat })

/-! ### SET_ZONE_CURVE and SET_ZONE_OVERRIDE (R93 to R95) -/

/-- What SET_ZONE_CURVE does at the cooling controller; `g` gives the order's bytes from the point count on (R93). -/
def decideCurve (z : ZoneNo) (g : Nat → Nat) (s : State) : State × Answer :=
  let ps := curveFrom g (g 0)
  if validCurve ps then
    if (s.zone z).curve = ps then (s, { result := .already, data := [byteOf (g 0)] })
    else (publishZone z (s.setZone z { s.zone z with curve := ps }), { result := .ok, data := [byteOf (g 0)] })
  else (s, plain .badArgument)

/-- Replace a zone's override, with its record. -/
def putOverride (z : ZoneNo) (o : Option Override) (s : State) : State :=
  publishZone z (s.setZone z { s.zone z with override := o })

/-- What SET_ZONE_OVERRIDE does at the cooling controller (R94, R95). Byte 29 of the answer is the duty the zone entry holds, 255
before the first period (DESIGN CHOICE, unsafe: notes/assumptions/34.md). -/
def decideOverride (x : Port) (z : ZoneNo) (action duty duration : Nat) (s : State) : State × Answer :=
  if 1 < action ∨ (action = 1 ∧ (duration < 1 ∨ 3600 < duration)) then (s, plain .badArgument)
  else if action = 1 then
    let e := uptimeAfter s.uptime (1000 * duration)
    (putOverride z (some { duty := duty, endAt := e, port := x }) s,
      { result := .ok, data := le32 e.toNat ++ [byteOf (s.zone z).duty] })
  else
    match (s.zone z).override with
    | some _ => (putOverride z none s, { result := .ok, data := zeros 4 ++ [byteOf (s.zone z).duty] })
    | none => (s, { result := .already, data := zeros 4 ++ [byteOf (s.zone z).duty] })

/-! ### CANCEL_ORDER (R153) -/

/-- What CANCEL_ORDER does at order intake (R153). -/
def decideCancel (x : Port) (named : SlotNo) (s : State) : State × Answer :=
  match lingeringOf s x named with
  | some c => (endLingering c .cancelled s, { result := .ok, data := [byteOf named.val] })
  | none => (s, { result := .notFound, data := [byteOf named.val] })

/-! ### Deciding an order (R148 to R150) -/

/-- An owner's decision that finishes the order at once. -/
def finished (o : State × Answer) : State × Option Answer := (o.1, some o.2)

/-- The owner's decision of an order that passed the form check and the claim check, by its kind (R154). -/
def routeOrder (c : Context) (s : State) : State × Option Answer :=
  let a := argByte c.args
  match c.kind.toNat with
  | 0x01 => finished (decideClaim c.port (bayRange (a 4) (a 5)) s)
  | 0x02 => finished (decideRelease c.port (bayRange (a 4) (a 5)) s)
  | 0x03 =>
    decidePowerOn c.port c.slot (bayOf (a 4)) (Fin.ofNat 4 (a 5)) (a 6) (decide (a 7 = 1)) (argHalf c.args 8) s
  | 0x04 => decidePowerOff (bayOf (a 4)) s
  | 0x05 => finished (decideClear c.port (bayOf (a 4)) s)
  | 0x06 => finished (decidePolicy (bayRange (a 4) (a 5)) (policyOf (a 6)) s)
  | 0x07 =>
    finished
      (decideProfile (Fin.ofNat 8 (a 4))
        { surge := argHalf c.args 6, surgeTime := argHalf c.args 8, running := argHalf c.args 10 } s)
  | 0x08 => finished (decideIndication c.port (bayRange (a 4) (a 5)) (a 6) s)
  | 0x09 => finished (decideLocate (bayOf (a 4)) (a 5) (argHalf c.args 6) s)
  | 0x0A => finished (decidePattern (Fin.ofNat 32 (a 4)) (fun k => a (5 + k)) s)
  | 0x0B => finished (decideCurve (Fin.ofNat 4 (a 4)) (fun k => a (5 + k)) s)
  | 0x0C => finished (decideOverride c.port (Fin.ofNat 4 (a 4)) (a 5) (a 6) (argHalf c.args 8) s)
  | 0x0D => finished (decideLimit (Fin.ofNat 4 (a 4)) (argHalf c.args 6) (argHalf c.args 8) s)
  | 0x0E => finished (decideCancel c.port (Fin.ofNat 24 (a 4)) s)
  | _ => (s, some (plain .badKind))

/-- Decide a taken order: a port that is not LIVE, the form check, the claim check, then the owner; each result but that of a
lingering order finishes it (R148 to R150, R158). The port's state at the take decides, so a post that still waits when its port's
heartbeat is taken is decided as one of a LIVE port (DESIGN CHOICE, unsafe: notes/assumptions/44.md). -/
def decideOrder (c : Context) (s : State) : State :=
  if (s.port c.port).state ≠ .live then finishSlot c.port c.slot (plain .portSilent) s
  else
    match formCheck c.kind c.args with
    | some r => finishSlot c.port c.slot (plain r) s
    | none =>
      match firstIn (claimRange c.kind c.args) (heldElsewhere s c.port) with
      | some b => finishSlot c.port c.slot (naming .heldElsewhere b) s
      | none =>
        let o := routeOrder c s
        match o.2 with
        | some answer => finishSlot c.port c.slot answer o.1
        | none => o.1

/-! ### Taking posts (R145, R146) -/

/-- The tag a slot holds, bytes 2 and 3 (R143). -/
def slotTag (s : State) (x : Port) (n : SlotNo) : BitVec 16 :=
  BitVec.ofNat 16 (leNat (Memory.readRun s.xm (slotBase x n + 2) 2))

/-- The context made from a slot's bytes at its take: the kind, a copy of the tag, and the arguments (R143, R147). -/
def contextFrom (x : Port) (n : SlotNo) (s : State) : Context :=
  { port := x, slot := n, kind := Memory.read s.xm (slotBase x n + 1),
    tag := slotTag s x n,
    args := argsOf (Memory.readRun s.xm (slotBase x n + 4) 20), takenAt := s.uptime, linger := none }

/-- Take a POSTED slot: its context, TAKEN, and its post bit (R145). -/
def takeSlot (x : Port) (n : SlotNo) (s : State) : State :=
  clearPost x n ((s.setContexts (contextFrom x n s :: s.oi.contexts)).store (slotBase x n) [slotTaken])

/-- Handle the post of a slot (R145). -/
def handlePost (x : Port) (n : SlotNo) (s : State) : State :=
  match contextOf s x n with
  | some _ => strayPost x n true s
  | none =>
    if slotState s x n = slotPosted then decideOrder (contextFrom x n s) (takeSlot x n s) else strayPost x n false s

/-- The lowest-numbered slot of a port whose post bit is set (R146). -/
def lowestPost (s : State) (x : Port) : Option SlotNo := (List.finRange 24).find? fun n => posted s x n

/-- The post order intake handles next: of the port whose turn it is, or of the other when that one has none (R146). -/
def nextPost (s : State) : Option (Port × SlotNo) :=
  match lowestPost s s.oi.turn with
  | some n => some (s.oi.turn, n)
  | none =>
    match lowestPost s (otherPort s.oi.turn) with
    | some n => some (otherPort s.oi.turn, n)
    | none => none

/-- Give the next turn to the other port than the one just handled (R146). -/
def passTurn (x : Port) (s : State) : State := { s with oi := { s.oi with turn := otherPort x } }

/-- Handle the next post, if any is set (R146). -/
def takeNextPost (s : State) : State :=
  match nextPost s with
  | some p => passTurn p.1 (handlePost p.1 p.2 s)
  | none => s

/-! ### An order posted and taken -/

/-- The processor of port x fills slot n with an order: kind and arguments, POSTED in the state byte, then the post bit (8.3,
R141). The tag stays as it stands and argument bytes the kind does not name are 0. -/
def postOrder (x : Port) (n : SlotNo) (kind : Byte) (bytes : List Byte) (s : State) : State :=
  writePost x (slotBit n)
    (((s.store (slotBase x n + 1) [kind]).store (slotBase x n + 4) (argsOf bytes).toList).store (slotBase x n) [slotPosted])

/-- Order intake handles posts in its order until that of slot n of port x has been handled (R146). -/
def intakeUntil (fuel : Nat) (x : Port) (n : SlotNo) (s : State) : State :=
  match fuel with
  | 0 => s
  | k + 1 => if posted s x n then intakeUntil k x n (takeNextPost s) else s

/-- An order command: the processor posts the order, and outside LOADING order intake handles the posts up to and including it;
each handling clears a post bit, and there are 48. During LOADING the post is held (R145), and in reset nothing happens
(DESIGN CHOICE, unsafe: notes/assumptions/11.md). -/
def commandOrder (x : Port) (n : SlotNo) (kind : Byte) (bytes : List Byte) (s : State) : State :=
  match s.phase with
  | .inReset => s
  | .loading => postOrder x n kind bytes s
  | .running => intakeUntil 48 x n (postOrder x n kind bytes s)

/-! ### The commands -/

/-- TAKE_POST (R145, R146): outside LOADING, the next post is handled. -/
def execTakePost (s : State) : Host.Outcome State Fault Refusal :=
  .next (if s.phase = .running then takeNextPost s else s)

/-- Whether a context's wait limit has expired (R151). -/
def lingerExpired (u : Uptime) (c : Context) : Bool :=
  match c.linger with
  | some l => timerDue u l.expiry
  | none => false

/-- WAIT_LIMIT_EXPIRY (R151): the lingering order of a slot expires, if it has an expiry and its uptime is reached. -/
def execWaitLimitExpiry (x : Port) (n : SlotNo) (s : State) : Host.Outcome State Fault Refusal :=
  .next
    (match lingeringOf s x n with
    | some c => if s.phase = .running ∧ lingerExpired s.uptime c = true then endLingering c .timedOut s else s
    | none => s)

/-- CLAIM_BAYS (R156). -/
def execClaimBays (x : Port) (n : SlotNo) (first count : Byte) (s : State) : Host.Outcome State Fault Refusal :=
  .next (commandOrder x n kindClaimBays [first, count] s)

/-- RELEASE_BAYS (R157). -/
def execReleaseBays (x : Port) (n : SlotNo) (first count : Byte) (s : State) : Host.Outcome State Fault Refusal :=
  .next (commandOrder x n kindReleaseBays [first, count] s)

/-- BAY_POWER_ON (R18, R19). -/
def execBayPowerOn (x : Port) (n : SlotNo) (bay priority profile waitFlag : Byte) (waitLimit : BitVec 16) (s : State) :
    Host.Outcome State Fault Refusal :=
  .next (commandOrder x n kindBayPowerOn ([bay, priority, profile, waitFlag] ++ halfBytes waitLimit) s)

/-- BAY_POWER_OFF (R20). -/
def execBayPowerOff (x : Port) (n : SlotNo) (bay : Byte) (s : State) : Host.Outcome State Fault Refusal :=
  .next (commandOrder x n kindBayPowerOff [bay] s)

/-- CLEAR_BAY_FAULT (R62). -/
def execClearBayFault (x : Port) (n : SlotNo) (bay : Byte) (s : State) : Host.Outcome State Fault Refusal :=
  .next (commandOrder x n kindClearBayFault [bay] s)

/-- SET_BAY_POLICY (R16). -/
def execSetBayPolicy (x : Port) (n : SlotNo) (first count policy : Byte) (s : State) : Host.Outcome State Fault Refusal :=
  .next (commandOrder x n kindSetBayPolicy [first, count, policy] s)

/-- SET_PROFILE (R46); byte 5 is not named by R149. -/
def execSetProfile (x : Port) (n : SlotNo) (profile : Byte) (surge surgeTime running : BitVec 16) (s : State) :
    Host.Outcome State Fault Refusal :=
  .next
    (commandOrder x n kindSetProfile ([profile, 0] ++ halfBytes surge ++ halfBytes surgeTime ++ halfBytes running) s)

/-- SET_INDICATION (R125). -/
def execSetIndication (x : Port) (n : SlotNo) (first count pattern : Byte) (s : State) : Host.Outcome State Fault Refusal :=
  .next (commandOrder x n kindSetIndication [first, count, pattern] s)

/-- LOCATE (R129). -/
def execLocate (x : Port) (n : SlotNo) (bay action : Byte) (duration : BitVec 16) (s : State) :
    Host.Outcome State Fault Refusal :=
  .next (commandOrder x n kindLocate ([bay, action] ++ halfBytes duration) s)

/-- LOAD_PATTERN (R122). -/
def execLoadPattern (x : Port) (n : SlotNo) (pattern lengthAdd stepCode flags : Byte) (colours stepCodes : Vector Byte 6)
    (s : State) : Host.Outcome State Fault Refusal :=
  .next
    (commandOrder x n kindLoadPattern
      ([pattern, lengthAdd, stepCode, flags] ++ colours.toList ++ stepCodes.toList) s)

/-- The argument bytes of a curve: its points, each a temperature and a duty (R149). -/
def rawPoints (points : Vector RawPoint 6) : List Byte :=
  points.toList.flatMap fun p => halfBytes p.temp ++ [p.duty]

/-- SET_ZONE_CURVE (R93). A slot has 20 argument bytes, which end with the sixth point's duty. -/
def execSetZoneCurve (x : Port) (n : SlotNo) (zone count : Byte) (points : Vector RawPoint 6) (s : State) :
    Host.Outcome State Fault Refusal :=
  .next (commandOrder x n kindSetZoneCurve ([zone, count] ++ rawPoints points) s)

/-- SET_ZONE_OVERRIDE (R94, R95); byte 7 is not named by R149. -/
def execSetZoneOverride (x : Port) (n : SlotNo) (zone action duty : Byte) (duration : BitVec 16) (s : State) :
    Host.Outcome State Fault Refusal :=
  .next (commandOrder x n kindSetZoneOverride ([zone, action, duty, 0] ++ halfBytes duration) s)

/-- SET_RAIL_LIMIT (R47); byte 5 is not named by R149. -/
def execSetRailLimit (x : Port) (n : SlotNo) (rail : Byte) (dual single : BitVec 16) (s : State) :
    Host.Outcome State Fault Refusal :=
  .next (commandOrder x n kindSetRailLimit ([rail, 0] ++ halfBytes dual ++ halfBytes single) s)

/-- CANCEL_ORDER (R153). -/
def execCancelOrder (x : Port) (n : SlotNo) (named : Byte) (s : State) : Host.Outcome State Fault Refusal :=
  .next (commandOrder x n kindCancelOrder [named] s)

end Sys2Proof.Machine
end

