-- ==== Sys2Proof/Machine/Image.lean ====
section
/-! DEFINITION. The description loader's work on the image (chapter 11): the checks, the fields of each section, the clamping and
the structural check. -/

namespace Sys2Proof.Machine

/-! ### Bytes of the image (R178, R179) -/

/-- What the description line carries out for the read: the read instruction and the address 0x0000 (R178). -/
def descriptionReadBytes : List Byte := [0x03, 0x00, 0x00]

/-- Byte k of the image; a device that stops answering returns 0xFF (R178). -/
def imageByte (image : List Byte) (k : Nat) : Nat := (image.getD k 0xFF).toNat

/-- The 16-bit field at bytes k and k + 1 of an entry whose bytes `g` gives. -/
def halfAt (g : Nat → Nat) (k : Nat) : Nat := g k + 256 * g (k + 1)

/-- The signed 16-bit field at bytes k and k + 1. -/
def signedAt (g : Nat → Nat) (k : Nat) : Int := (BitVec.ofNat 16 (halfAt g k)).toInt

/-- The image length L of the header. -/
def imageLength (image : List Byte) : Nat := halfAt (imageByte image) 4

/-- The sum of the first n bytes of the image as a read of them returns it. -/
def imageSum (image : List Byte) (n : Nat) : Nat :=
  (((image ++ List.replicate n 0xFF).take n).map BitVec.toNat).sum

/-- The five checks in their order: the reason of the first that fails (R178). -/
def imageFault (image : List Byte) : Option DescReason :=
  let g := imageByte image
  let len := imageLength image
  if (List.range 6).all (fun k => g k = 0xFF) ∨ (List.range 6).all (fun k => g k = 0x00) then some .noResponse
  else if g 0 ≠ 0xA5 ∨ g 1 ≠ 0x3C then some .badSignature
  else if g 2 ≠ 1 then some .badVersion
  else if len < 64 ∨ 4096 < len then some .badLength
  else if imageSum image (len - 2) % 65536 ≠ halfAt g (len - 2) then some .badChecksum
  else none

/-- Whether a section is given: it lies wholly within bytes 8 to L − 3 (R179). -/
def sectionGiven (image : List Byte) (offset size : Nat) : Bool := decide (8 ≤ offset ∧ offset + size ≤ imageLength image - 2)

/-- The bytes of entry e of a section. -/
def entryOf (image : List Byte) (offset size e : Nat) : Nat → Nat := fun k => imageByte image (offset + size * e + k)

/-! ### Clamping (R181) -/

/-- To the nearer end of a range. -/
def clampTo (lo hi v : Nat) : Nat := max lo (min hi v)

/-- Whether a field lies outside its range. -/
def outside (lo hi v : Nat) : Bool := decide (v < lo ∨ hi < v)

/-- Whether a temperature lies outside −80 to 300 h°C. -/
def tempOutside (t : Int) : Bool := decide (t < Config.minTemp ∨ Config.maxTemp < t)

/-- A rail or zone number; above 3, which only an unchecked entry may hold, it is stored as 0 (R180). -/
def mapTo4 (v : Nat) : Fin 4 := if v < 4 then Fin.ofNat 4 v else 0

/-- A pattern number; above 31 it is taken as 0 (R181). -/
def mapTo32 (v : Nat) : PatternNo := if v < 32 then Fin.ofNat 32 v else 0

/-! ### The fields of each section's entry (R179), as clamped by R181 -/

/-- A bay entry. -/
def bayFrom (g : Nat → Nat) : BayDesc :=
  { fitted := decide (g 0 ≠ 0)
    drawer := if g 1 < 4 then some (Fin.ofNat 4 (g 1)) else none
    rail := mapTo4 (g 2)
    zone := mapTo4 (g 3)
    policy := if (g 4).testBit 0 then .hold else .auto
    priority := Fin.ofNat 4 (clampTo 0 3 (g 5 % 16))
    profile := Fin.ofNat 8 (clampTo 0 7 (g 5 / 16))
    retryLimit := clampTo 0 7 (g 6)
    coolOff := clampTo 1 60 (g 7)
    altPhase := (g 4).testBit 1 }

/-- Whether a field of a bay entry is clamped. -/
def bayClamped (g : Nat → Nat) : Bool :=
  decide (3 < g 1 ∧ g 1 ≠ 0xFF) || outside 0 3 (g 5 % 16) || outside 0 7 (g 5 / 16) || outside 0 7 (g 6) ||
  outside 1 60 (g 7)

/-- A profile entry. -/
def profileFrom (g : Nat → Nat) : Profile :=
  { surge := halfAt g 0, surgeTime := clampTo 1 600 (halfAt g 2), running := clampTo 0 (halfAt g 0) (halfAt g 4) }

/-- Whether a field of a profile entry is clamped. -/
def profileClamped (g : Nat → Nat) : Bool := outside 1 600 (halfAt g 2) || outside 0 (halfAt g 0) (halfAt g 4)

/-- A rail entry. -/
def railFrom (g : Nat → Nat) : RailDesc :=
  { dualCeiling := halfAt g 0, singleCeiling := clampTo 0 (halfAt g 0) (halfAt g 2), base := halfAt g 4, stagger := g 6,
    level := Fin.ofNat 8 (clampTo 0 7 (g 7)), holdOff := clampTo 0 30 (g 8) }

/-- Whether a field of a rail entry is clamped. -/
def railClamped (g : Nat → Nat) : Bool :=
  outside 0 (halfAt g 0) (halfAt g 2) || outside 0 7 (g 7) || outside 0 30 (g 8)

/-- A fan entry: the full draw is clamped first, then the idle draw to it. -/
def fanFrom (g : Nat → Nat) : FanDesc :=
  { fitted := decide (g 0 ≠ 0), zone := mapTo4 (g 1), rail := mapTo4 (g 2), full := clampTo 0 3000 (halfAt g 6),
    idle := clampTo 0 (clampTo 0 3000 (halfAt g 6)) (halfAt g 4), pulses := clampTo 1 4 (g 3), minRpm := halfAt g 8 }

/-- Whether a field of a fan entry is clamped. -/
def fanClamped (g : Nat → Nat) : Bool :=
  outside 0 3000 (halfAt g 6) || outside 0 (clampTo 0 3000 (halfAt g 6)) (halfAt g 4) || outside 1 4 (g 3)

/-- A zone entry; the drive offset is an unsigned byte (DESIGN CHOICE, unsafe: notes/assumptions/23.md). -/
def zoneFrom (g : Nat → Nat) : ZoneDesc :=
  { curve := (curveFrom g (clampTo 1 6 (g 0))).map fun p => { p with temp := clampTemp p.temp }
    drawerFloor := g 19
    bump := clampTo 0 128 (g 20)
    upStep := clampTo 1 255 (g 21)
    downStep := clampTo 1 255 (g 22)
    minDuty := g 23
    driveOffset := clampTo 0 80 (g 24)
    warn := clampTemp (signedAt g 26)
    critical := clampTemp (signedAt g 28) }

/-- Whether a field of a zone entry is clamped, any of its six points included. -/
def zoneClamped (g : Nat → Nat) : Bool :=
  outside 1 6 (g 0) || (curveFrom g 6).any (fun p => tempOutside p.temp) || outside 0 128 (g 20) || outside 1 255 (g 21) ||
  outside 1 255 (g 22) || outside 0 80 (g 24) || tempOutside (signedAt g 26) || tempOutside (signedAt g 28)

/-- A sensor entry. -/
def sensorFrom (g : Nat → Nat) : SensorDesc :=
  { fitted := decide (g 0 ≠ 0), address := clampTo 0x08 0x77 (g 1), zone := mapTo4 (g 2) }

/-- Whether a field of a sensor entry is clamped. -/
def sensorClamped (g : Nat → Nat) : Bool := outside 0x08 0x77 (g 1)

/-- The bytes of a pattern entry with its ranged fields clamped. -/
def patternBytesClamped (g : Nat → Nat) (k : Nat) : Nat :=
  if k = 0 then clampTo 0 16 (g 0)
  else if k = 1 then clampTo 1 20 (g 1)
  else if 3 ≤ k ∧ k ≤ 8 then clampTo 0 15 (g k)
  else g k

/-- A maps entry's pattern numbers: normal map, service map, locate and fault pattern. -/
def mapFrom (g : Nat → Nat) (k : Nat) : Vector PatternNo 10 := Vector.ofFn fun i => mapTo32 (g (k + i.val))

/-! ### The applied description (R179, R182) -/

/-- Whether each section is given: offset and size of the table of 11.1. -/
def hasEnclosure (image : List Byte) : Bool := sectionGiven image 0x0008 0x30
/-- Whether the bays section is given. -/
def hasBays (image : List Byte) : Bool := sectionGiven image 0x0040 (96 * 8)
/-- Whether the profiles section is given. -/
def hasProfiles (image : List Byte) : Bool := sectionGiven image 0x0340 (8 * 8)
/-- Whether the rails section is given. -/
def hasRails (image : List Byte) : Bool := sectionGiven image 0x0380 (4 * 16)
/-- Whether the fans section is given. -/
def hasFans (image : List Byte) : Bool := sectionGiven image 0x03C0 (12 * 16)
/-- Whether the zones section is given. -/
def hasZones (image : List Byte) : Bool := sectionGiven image 0x0480 (4 * 48)
/-- Whether the sensors section is given. -/
def hasSensors (image : List Byte) : Bool := sectionGiven image 0x0540 (16 * 4)
/-- Whether the patterns section is given. -/
def hasPatterns (image : List Byte) : Bool := sectionGiven image 0x0580 (31 * 32)
/-- Whether the maps section is given. -/
def hasMaps (image : List Byte) : Bool := sectionGiven image 0x0960 0x20
/-- Whether the timing section is given. -/
def hasTiming (image : List Byte) : Bool := sectionGiven image 0x0980 0x20

/-- The bytes of bay b's entry. -/
def bayEntry (image : List Byte) (b : BayNo) : Nat → Nat := entryOf image 0x0040 8 b.val
/-- The bytes of a profile's entry. -/
def profileEntry (image : List Byte) (p : ProfileNo) : Nat → Nat := entryOf image 0x0340 8 p.val
/-- The bytes of a rail's entry. -/
def railEntry (image : List Byte) (r : RailNo) : Nat → Nat := entryOf image 0x0380 16 r.val
/-- The bytes of a fan's entry. -/
def fanEntry (image : List Byte) (f : FanNo) : Nat → Nat := entryOf image 0x03C0 16 f.val
/-- The bytes of a zone's entry. -/
def zoneEntry (image : List Byte) (z : ZoneNo) : Nat → Nat := entryOf image 0x0480 48 z.val
/-- The bytes of a sensor's entry. -/
def sensorEntry (image : List Byte) (n : SensorNo) : Nat → Nat := entryOf image 0x0540 4 n.val
/-- The bytes of the entry that holds pattern n, for n from 1: entry n − 1. -/
def patternEntry (image : List Byte) (n : PatternNo) : Nat → Nat := entryOf image 0x0580 32 (n.val - 1)
/-- The bytes of the maps section. -/
def mapsEntry (image : List Byte) : Nat → Nat := entryOf image 0x0960 0x20 0
/-- The bytes of the timing section. -/
def timingEntry (image : List Byte) : Nat → Nat := entryOf image 0x0980 0x20 0

/-- The description that an image gives, each section not given at its defaults. -/
def appliedDescription (image : List Byte) : Description :=
  let d := defaultDescription
  let m := mapsEntry image
  let t := timingEntry image
  { bayCount := imageByte image 3
    serial := if hasEnclosure image then Vector.ofFn fun i => byteOf (imageByte image (8 + i.val)) else d.serial
    bays := if hasBays image then Vector.ofFn fun b => bayFrom (bayEntry image b) else d.bays
    profiles := if hasProfiles image then Vector.ofFn fun p => profileFrom (profileEntry image p) else d.profiles
    rails := if hasRails image then Vector.ofFn fun r => railFrom (railEntry image r) else d.rails
    fans := if hasFans image then Vector.ofFn fun f => fanFrom (fanEntry image f) else d.fans
    zones := if hasZones image then Vector.ofFn fun z => zoneFrom (zoneEntry image z) else d.zones
    sensors := if hasSensors image then Vector.ofFn fun n => sensorFrom (sensorEntry image n) else d.sensors
    patterns :=
      if hasPatterns image then
        Vector.ofFn fun n =>
          if n = 0 then patternZero else patternFrom (patternBytesClamped (patternEntry image n))
      else d.patterns
    normalMap := if hasMaps image then mapFrom m 0 else d.normalMap
    serviceMap := if hasMaps image then mapFrom m 10 else d.serviceMap
    locatePattern := if hasMaps image then mapTo32 (m 20) else d.locatePattern
    faultPattern := if hasMaps image then mapTo32 (m 21) else d.faultPattern
    presenceDebounce := if hasTiming image then clampTo 50 2000 (halfAt t 0) else d.presenceDebounce
    drawerSettle := if hasTiming image then clampTo 0 10 (t 2) else d.drawerSettle
    heartbeatTimeout := if hasTiming image then t 3 else d.heartbeatTimeout
    staleTime := if hasTiming image then clampTo 5 300 (halfAt t 4) else d.staleTime
    failsafeDuty := if hasTiming image then t 6 else d.failsafeDuty
    inrushBlank := if hasTiming image then t 7 else d.inrushBlank
    blankingTime := if hasTiming image then clampTo 100 5000 (halfAt t 8) else d.blankingTime }

/-- Whether a field of a pattern entry is clamped. -/
def patternClamped (g : Nat → Nat) : Bool := (List.range 15).any fun k => decide (patternBytesClamped g k ≠ g k)

/-- Whether a field of the maps section is taken as 0. -/
def mapsClamped (g : Nat → Nat) : Bool := (List.range 22).any fun k => outside 0 31 (g k)

/-- Whether a field of the timing section is clamped. -/
def timingClamped (g : Nat → Nat) : Bool :=
  outside 50 2000 (halfAt g 0) || outside 0 10 (g 2) || outside 5 300 (halfAt g 4) || outside 100 5000 (halfAt g 8)

/-- Whether a field of an image is clamped (R181). -/
def anyClamped (image : List Byte) : Bool :=
  (hasBays image && (List.finRange 96).any fun b => bayClamped (bayEntry image b)) ||
  (hasProfiles image && (List.finRange 8).any fun p => profileClamped (profileEntry image p)) ||
  (hasRails image && (List.finRange 4).any fun r => railClamped (railEntry image r)) ||
  (hasFans image && (List.finRange 12).any fun f => fanClamped (fanEntry image f)) ||
  (hasZones image && (List.finRange 4).any fun z => zoneClamped (zoneEntry image z)) ||
  (hasSensors image && (List.finRange 16).any fun n => sensorClamped (sensorEntry image n)) ||
  (hasPatterns image && (List.finRange 31).any fun e => patternClamped (entryOf image 0x0580 32 e.val)) ||
  (hasMaps image && mapsClamped (mapsEntry image)) ||
  (hasTiming image && timingClamped (timingEntry image))

/-! ### The structural check (R180) -/

/-- Whether a bay is in use by a description: below its bay count and fitted (R3, R180). -/
def Description.inUse (d : Description) (b : BayNo) : Bool := decide (b.val < d.bayCount) && d.bays[b].fitted

/-- Whether a mapping of an entry that is checked lies above 3 (R180). -/
def badMappings (image : List Byte) (d : Description) : Bool :=
  (hasBays image && (List.finRange 96).any fun b =>
    d.inUse b && decide (3 < bayEntry image b 2 ∨ 3 < bayEntry image b 3)) ||
  (hasFans image && (List.finRange 12).any fun f =>
    d.fans[f].fitted && decide (3 < fanEntry image f 1 ∨ 3 < fanEntry image f 2)) ||
  (hasSensors image && (List.finRange 16).any fun n => d.sensors[n].fitted && decide (3 < sensorEntry image n 2))

/-- Whether more than 24 bays in use name the same drawer (R180). A drawer byte that R181 takes as none names none here either, so bays
that share one are not counted (DESIGN CHOICE, unsafe: notes/assumptions/43.md). -/
def crowdedDrawer (d : Description) : Bool :=
  (List.finRange 4).any fun w =>
    decide (24 < ((List.finRange 96).filter fun b => d.inUse b && decide (d.bays[b].drawer = some w)).length)

/-- Whether an image that passed the five checks is structurally unusable (R180). -/
def badStructure (image : List Byte) : Bool :=
  let d := appliedDescription image
  decide (d.bayCount = 0 ∨ 96 < d.bayCount) || badMappings image d || crowdedDrawer d ||
  (List.finRange 4).any fun z => !orderedCurve d.zones[z].curve

/-! ### The outcome -/

/-- What the description loader makes of an image: the description in force, its status and its reason (R178 to R182). -/
structure Loaded where
  desc : Description
  status : DescStatus
  reason : DescReason
  deriving DecidableEq, Repr

/-- The defaults, with the reason of a rejection. -/
def rejected (reason : DescReason) : Loaded := { desc := defaultDescription, status := .defaulted, reason := reason }

/-- Read, check and apply an image (R178 to R182). -/
def loadImage (image : List Byte) : Loaded :=
  match imageFault image with
  | some reason => rejected reason
  | none =>
    if badStructure image then rejected .badStructure
    else
      { desc := appliedDescription image, status := if anyClamped image then .validClamped else .valid, reason := .none }

end Sys2Proof.Machine
end

