-- ==== Sys2Proof/Machine/StartUp.lean ====
section
/-! DEFINITION. The time base and start-up (R1, chapter 11): the resets, LOADING and its end, and the commands UPTIME_TICK,
POWER_ON_RESET, PIN_RESET, RESET_N_GOES_LOW and END_OF_LOADING. -/

namespace Sys2Proof.Machine

/-! ### The resets (R183) -/

/-- A bay entry after a pin reset: the reset values, the switch field kept (R2, R183). -/
def pinResetBay (s : State) (b : BayNo) : Bay := { resetBay b with switch := (s.bay b).switch }

/-- The reset values of all state, but for what a reset does not reach: the enables the backplane holds, the currents on the
rails, the levels the LED drivers latched, and the queue of commands. -/
def resetAll (s : State) : State :=
  { State.reset with
    bc := { State.reset.bc with enables := s.bc.enables }
    ps := { State.reset.ps with rails := Vector.ofFn fun r => { resetRail with sense := (s.rail r).sense } }
    ie := { State.reset.ie with lights := s.ie.lights }
    pending := s.pending }

/-- The switch fields of a state kept in another (R183). -/
def keepSwitches (old : State) (s : State) : State :=
  { s with bc := { s.bc with bays := Vector.ofFn fun b => pinResetBay old b } }

/-- The two values that only a power-on reset clears, put into a state (R183). -/
def setResetKind (kind : ResetKind) (warm : Nat) (s : State) : State :=
  { s with dl := { s.dl with resetKind := kind, warmRestarts := warm } }

/-- A power-on reset (R183): LOADING begins with every switch field off. -/
def powerOnReset (s : State) : State := resetAll s

/-- A pin reset (R183): LOADING begins with the switch fields kept, the kind PIN and the count raised, saturating at 255. -/
def pinReset (s : State) : State :=
  setResetKind .pin (min 255 (s.dl.warmRestarts + 1)) (keepSwitches s (resetAll s))

/-- RESET_N low: every state at its reset value, the switch fields and the two values of R183 kept, the exchange memory clear,
every fan output high (R97), and the clock and strobe of the scan chains (R4) and the indicator line (R133) low. DSC_CS_N stands high
(DESIGN CHOICE, unsafe: notes/assumptions/42.md). -/
def holdReset (s : State) : State :=
  let t := setResetKind s.dl.resetKind s.dl.warmRestarts (keepSwitches s (resetAll s))
  { t with dl := { t.dl with phase := .inReset, csN := true }, xm := [] }

/-! ### Applying the description (R185) -/

/-- A bay entry as BC applies the description to it: DISABLED or not, and its policy, profile and priority (R2, R3). The last
state change of a bay or drawer that the end of LOADING leaves in its reset state stays 0. -/
def applyBay (d : Description) (u : Uptime) (b : BayNo) (v : Bay) : Bay :=
  { v with
    state := if d.inUse b then .absent else .disabled
    switch := false
    policy := d.bays[b].policy
    profile := d.bays[b].profile
    priority := d.bays[b].priority
    changed := if d.inUse b then v.changed else u }

/-- A bay after pin-reset reconciliation, from the presence level and the switch feedback of the sample at the end of LOADING
(R187). -/
def reconcileBay (d : Description) (f : ScanFrame) (u : Uptime) (b : BayNo) (v : Bay) : Bay :=
  let p := d.profiles[d.bays[b].profile]
  if v.state = .disabled ∨ f.presence.getLsbD b.val = false then v
  else if f.feedback.getLsbD b.val then
    { v with
      state := .seated .active, switch := true, admittedSurge := p.surge, admittedSurgeTime := p.surgeTime,
      admittedRunning := p.running, activeSince := some u, switchOn := .reconciled u, changed := u }
  else { v with state := .seated .idle, changed := u }

/-- A bay entry at the end of LOADING: after a power-on reset every bay in use is ABSENT, after a pin reset it is reconciled
(R186, R187). -/
def startBay (s : State) (d : Description) (f : ScanFrame) (b : BayNo) : Bay :=
  let v := applyBay d s.uptime b (s.bay b)
  match s.dl.resetKind with
  | .powerOn => v
  | .pin => reconcileBay d f s.uptime b v

/-- A bay's charge at the end of LOADING: the admitted running draw of a bay found running, or 0 (R187). -/
def startCharge (v : Bay) : Nat := if v.state = .seated .active then v.admittedRunning else 0

/-- A drawer's zone set: the zones of its bays that are not DISABLED (R21). -/
def zoneSetOf (d : Description) (w : DrawerNo) : BitVec 4 :=
  BitVec.ofNat 4
    (((List.finRange 4).filter fun z : ZoneNo =>
      (List.finRange 96).any fun b =>
        d.inUse b && decide (d.bays[b].drawer = some w) && decide (d.bays[b].zone = z)).map fun z => 2 ^ z.val).sum

/-- A drawer entry at the end of LOADING, from its line's level at that moment (R22). -/
def startDrawer (d : Description) (closed : BitVec 4) (u : Uptime) (w : DrawerNo) : Drawer :=
  { state := if closed.getLsbD w.val then .closed else .opened
    line := { level := closed.getLsbD w.val, debounce := none }
    settleEnd := none
    zoneSet := zoneSetOf d w
    changed := if closed.getLsbD w.val then 0 else u }

/-- The fan part of a rail at the end of LOADING: every fitted fan at its full draw (R32). -/
def startFanPart (d : Description) (r : RailNo) : Nat :=
  ((List.finRange 12).map fun f =>
    if d.fans[f].fitted = true ∧ d.fans[f].rail = r then d.fans[f].full else 0).sum

/-- The bay part of a rail at the end of LOADING: the charges of its bays found running (R27, R187). -/
def startBayPart (s : State) (d : Description) (f : ScanFrame) (r : RailNo) : Nat :=
  ((List.finRange 96).map fun b => if d.bays[b].rail = r then startCharge (startBay s d f b) else 0).sum

/-- A rail entry at the end of LOADING (R27), with the supply state BOTH. -/
def startRail (s : State) (d : Description) (f : ScanFrame) (r : RailNo) : Rail :=
  { dual := d.rails[r].dualCeiling, single := d.rails[r].singleCeiling, admitLimit := d.rails[r].dualCeiling,
    trip := tripLevel d.rails[r].dualCeiling d.rails[r].level, bayPart := startBayPart s d f r, fanPart := startFanPart d r,
    lastAdmission := none, holdOffEnd := none, paused := false, stagger := false, blocked := none, overLimit := false,
    sense := (s.rail r).sense }

/-- A sensor entry at the end of LOADING: a fitted one is LOST with its loss not logged (R66). -/
def startSensor (d : SensorDesc) : Sensor := { resetSensor with state := if d.fitted then .lost else .unfitted }

/-- A zone entry at the end of LOADING: the description's curve, the duty 255 (R83, R84). -/
def startZone (d : ZoneDesc) : Zone := { resetZone with curve := d.curve }

/-- A fan entry at the end of LOADING: an unfitted one is UNFITTED with duty and charge 0, a fitted one is STARTING at its full
draw (R84, R106). -/
def startFan (d : FanDesc) (f : FanNo) : Fan :=
  if d.fitted then { resetFan f with charge := d.full } else { resetFan f with state := .unfitted, duty := 0, charge := 0 }

/-- Every block takes its part of the description at the end of LOADING, and begins to count its work from there (R67, R84, R111,
R132, R185). The read of the image has ended with DSC_CS_N high (R178; that it lasts until here: DESIGN CHOICE, unsafe,
notes/assumptions/42.md). -/
def applyDescription (l : Loaded) (f : ScanFrame) (closed : BitVec 4) (good : BitVec 2) (s : State) : State :=
  let d := l.desc
  let u := s.uptime
  { s with
    dl := { s.dl with phase := .running, status := l.status, reason := l.reason, desc := d, epoch := u, csN := true }
    bc :=
      { s.bc with
        bays := Vector.ofFn fun b => startBay s d f b
        drawers := Vector.ofFn fun w => startDrawer d closed u w }
    ps :=
      { rails := Vector.ofFn fun r => startRail s d f r
        charges := Vector.ofFn fun b => startCharge (startBay s d f b)
        lines := Vector.ofFn fun n => { level := good.getLsbD n.val, debounce := none }
        supply := .both
        queue := []
        profiles := d.profiles }
    tu := { s.tu with sensors := Vector.ofFn fun n => startSensor d.sensors[n], nextRound := u }
    cc :=
      { zones := Vector.ofFn fun z => startZone d.zones[z]
        pwm := Vector.ofFn fun g => if d.fans[g].fitted then 255 else 0
        nextPeriod := uptimeAfter u Config.coolingInterval }
    fm := { fans := Vector.ofFn fun g => startFan d.fans[g] g, nextEvaluation := uptimeAfter u Config.evaluationInterval }
    ie := { s.ie with patterns := d.patterns, nextFrame := u } }

/-- The first writes of the records (R25, R33, R71, R101, R116, R168, R170, R171). -/
def writeRecords (s : State) : State :=
  let s := rewriteProfiles (rewriteDescription s)
  let s := forBays rewriteBay s
  let s := rewriteQueue (forFour rewriteDrawer s)
  let s := forFour rewriteRail s
  let s := forFour rewriteZone s
  let s := forEach (List.finRange 12) rewriteFan s
  forEach (List.finRange 16) rewriteSensor s

/-- START: its event as sequence 1, and START in NOTICE on both ports (R185). -/
def logStart (s : State) : State :=
  noticeBoth noticeStart (logEvent (eventStart s.dl.status s.dl.reason s.dl.resetKind s.dl.warmRestarts) s)

/-- The event of a drawer found OPEN at the end of LOADING (R22). -/
def startDrawerEvent (w : DrawerNo) (s : State) : State :=
  if (s.drawer w).state = .opened then logEvent (eventDrawerOpened w .closed) s else s

/-- The supply state formed at the end of LOADING; other than BOTH it is a change from BOTH (R28). A crossing of the trip level that
this change brings is taken within it by R30, before the comparators are read by R51 (DESIGN CHOICE, unsafe:
notes/assumptions/41.md). -/
def startSupply (s : State) : State := if linesSupply s = .both then s else changeSupply (linesSupply s) s

/-- A rail at the end of LOADING: its comparator is read, unless the supply change has paused it (notes/assumptions/41.md), and its
over-limit condition evaluated (R51, R52). -/
def startRailChecks (r : RailNo) (s : State) : State :=
  let t := if (s.rail r).above = true ∧ (s.rail r).paused = false then takeRising r s else s
  publishRail r (evaluateOverLimit r t)

/-- A heartbeat recorded during LOADING is taken (R162). -/
def startHeartbeat (x : Port) (s : State) : State :=
  if (s.port x).heartbeatSeen then takeHeartbeat x (s.setPort x { s.port x with heartbeatSeen := false }) else s

/-- The sample of the end of LOADING after a power-on reset: each drive present moves its bay to ARRIVING (R186). -/
def startPresence (f : ScanFrame) (s : State) : State :=
  match s.dl.resetKind with
  | .powerOn => forBays (fun b t => applyPresence b (f.presence.getLsbD b.val) t) s
  | .pin => s

/-- The end of LOADING (R185); the order of the parts is that of R185 (DEDUCED, unsafe: notes/assumptions/15.md). The sample taken at
this moment drives out the switch fields as LOADING held them, before the description and R187 set them (DESIGN CHOICE, unsafe:
notes/assumptions/39.md). -/
def endLoading (image : List Byte) (f : ScanFrame) (closed : BitVec 4) (good : BitVec 2) (s : State) : State :=
  let s := driveEnables s
  let s := logStart (writeRecords (applyDescription (loadImage image) f closed good s))
  let s := forFour startDrawerEvent s
  let s := forFour startRailChecks (startSupply s)
  let s := startHeartbeat .b (startHeartbeat .a s)
  startPresence f s

/-! ### The commands -/

/-- POWER_ON_RESET (R183). -/
def execPowerOnReset (s : State) : Host.Outcome State Fault Refusal := .next (powerOnReset s)

/-- PIN_RESET (R183): RESET_N goes low and then high, or, from RESET_N low, high. -/
def execPinReset (s : State) : Host.Outcome State Fault Refusal := .next (pinReset s)

/-- RESET_N_GOES_LOW (R183). -/
def execResetNGoesLow (s : State) : Host.Outcome State Fault Refusal := .next (holdReset s)

/-- END_OF_LOADING (R185), in LOADING only. -/
def execEndOfLoading (image : List Byte) (f : ScanFrame) (closed : BitVec 4) (good : BitVec 2) (s : State) :
    Host.Outcome State Fault Refusal :=
  .next (if s.phase = .loading then endLoading image f closed good s else s)

/-- UPTIME_TICK (R1): the uptime rises by 1 modulo 2³² and goes into the live record (R168). In reset the time base stands at 0. -/
def execUptimeTick (s : State) : Host.Outcome State Fault Refusal :=
  .next (if s.phase = .inReset then s else rewriteLive { s with uptime := s.uptime + 1 })

end Sys2Proof.Machine
end

