-- ==== Sys2Proof/Machine/Dispatch.lean ====
section
/-! DEFINITION. What each command does: one arm for each constructor, one call of the command's meaning. -/

namespace Sys2Proof.Machine

def exec (i : Instr) (s : State) : Host.Outcome State Fault Refusal :=
  match i with
  | .powerOnReset => Sys2Proof.Machine.execPowerOnReset s
  | .pinReset => Sys2Proof.Machine.execPinReset s
  | .endOfLoading image frame drawersClosed suppliesGood => Sys2Proof.Machine.execEndOfLoading image frame drawersClosed suppliesGood s
  | .uptimeTick => Sys2Proof.Machine.execUptimeTick s
  | .bayScanSample frame => Sys2Proof.Machine.execBayScanSample frame s
  | .inserted bay => Sys2Proof.Machine.execInserted bay s
  | .removalConfirmed bay => Sys2Proof.Machine.execRemovalConfirmed bay s
  | .surgeEnd bay => Sys2Proof.Machine.execSurgeEnd bay s
  | .coolOffEnd bay => Sys2Proof.Machine.execCoolOffEnd bay s
  | .retryClearance bay => Sys2Proof.Machine.execRetryClearance bay s
  | .drawerLineSample drawersClosed => Sys2Proof.Machine.execDrawerLineSample drawersClosed s
  | .drawerDebounceEnd drawer => Sys2Proof.Machine.execDrawerDebounceEnd drawer s
  | .settleTimerEnd drawer => Sys2Proof.Machine.execSettleTimerEnd drawer s
  | .supplyLineSample suppliesGood => Sys2Proof.Machine.execSupplyLineSample suppliesGood s
  | .supplyDebounceEnd line => Sys2Proof.Machine.execSupplyDebounceEnd line s
  | .staggerEnd rail => Sys2Proof.Machine.execStaggerEnd rail s
  | .risingCrossing rail current => Sys2Proof.Machine.execRisingCrossing rail current s
  | .fallingCrossing rail current => Sys2Proof.Machine.execFallingCrossing rail current s
  | .holdOffEnd rail => Sys2Proof.Machine.execHoldOffEnd rail s
  | .temperatureRoundStart => Sys2Proof.Machine.execTemperatureRoundStart s
  | .sensorReadComplete outcome => Sys2Proof.Machine.execSensorReadComplete outcome s
  | .sensorReadTimeout => Sys2Proof.Machine.execSensorReadTimeout s
  | .coolingPeriod => Sys2Proof.Machine.execCoolingPeriod s
  | .overrideExpiry zone => Sys2Proof.Machine.execOverrideExpiry zone s
  | .tachEdge fan micros => Sys2Proof.Machine.execTachEdge fan micros s
  | .tachTimeout fan micros => Sys2Proof.Machine.execTachTimeout fan micros s
  | .fanEvaluation => Sys2Proof.Machine.execFanEvaluation s
  | .indicatorRefresh => Sys2Proof.Machine.execIndicatorRefresh s
  | .loadingDarkFrame => Sys2Proof.Machine.execLoadingDarkFrame s
  | .locateExpiry bay => Sys2Proof.Machine.execLocateExpiry bay s
  | .postWrite port value => Sys2Proof.Machine.execPostWrite port value s
  | .noticeWrite port value => Sys2Proof.Machine.execNoticeWrite port value s
  | .noticeEnableWrite port value => Sys2Proof.Machine.execNoticeEnableWrite port value s
  | .heartbeat port value => Sys2Proof.Machine.execHeartbeat port value s
  | .windowWrite port offset data => Sys2Proof.Machine.execWindowWrite port offset data s
  | .silenceTimerEnd port => Sys2Proof.Machine.execSilenceTimerEnd port s
  | .takePost => Sys2Proof.Machine.execTakePost s
  | .waitLimitExpiry port slot => Sys2Proof.Machine.execWaitLimitExpiry port slot s
  | .claimBays port slot first count => Sys2Proof.Machine.execClaimBays port slot first count s
  | .releaseBays port slot first count => Sys2Proof.Machine.execReleaseBays port slot first count s
  | .bayPowerOn port slot bay priority profile waitFlag waitLimit => Sys2Proof.Machine.execBayPowerOn port slot bay priority profile waitFlag waitLimit s
  | .bayPowerOff port slot bay => Sys2Proof.Machine.execBayPowerOff port slot bay s
  | .clearBayFault port slot bay => Sys2Proof.Machine.execClearBayFault port slot bay s
  | .setBayPolicy port slot first count policy => Sys2Proof.Machine.execSetBayPolicy port slot first count policy s
  | .setProfile port slot profile surge surgeTime running => Sys2Proof.Machine.execSetProfile port slot profile surge surgeTime running s
  | .setIndication port slot first count pattern => Sys2Proof.Machine.execSetIndication port slot first count pattern s
  | .locate port slot bay action duration => Sys2Proof.Machine.execLocate port slot bay action duration s
  | .loadPattern port slot pattern lengthAdd stepCode flags colours stepCodes => Sys2Proof.Machine.execLoadPattern port slot pattern lengthAdd stepCode flags colours stepCodes s
  | .setZoneCurve port slot zone count points => Sys2Proof.Machine.execSetZoneCurve port slot zone count points s
  | .setZoneOverride port slot zone action duty duration => Sys2Proof.Machine.execSetZoneOverride port slot zone action duty duration s
  | .setRailLimit port slot rail dual single => Sys2Proof.Machine.execSetRailLimit port slot rail dual single s
  | .cancelOrder port slot named => Sys2Proof.Machine.execCancelOrder port slot named s
  | .resetNGoesLow => Sys2Proof.Machine.execResetNGoesLow s

end Sys2Proof.Machine
end

