-- ==== Sys2Proof/Safety.lean ====
section
/-! DEFINITION. What holds of the part in every state a step may leave it in: the invariants the claims are stated with, the words
they use to say what a command leaves as it was, and what an image says by its bytes. -/

namespace Sys2Proof.Machine

/-! ### Invariants -/

/-- The exchange memory is in its canonical form. -/
def memoryCanonical (s : State) : Prop := Memory.wf s.xm = true

/-- The bits of each port's registers that do not exist read 0 (R140). -/
def registersLegal (s : State) : Prop :=
  ∀ x : Port, (s.port x).post &&& ~~~postMask = 0 ∧ (s.port x).notice &&& ~~~noticeMask = 0 ∧
    (s.port x).enable &&& ~~~noticeMask = 0

/-- The admission queue holds each bay at most once, and exactly the bays that are QUEUED or LEAVING with saved state QUEUED
(R34), in an order in which priorities never rise (R35, R36), each at the priority its bay's field holds. -/
def queueAgrees (s : State) : Prop :=
  (s.ps.queue.map QueueEntry.bay).Nodup ∧ (s.ps.queue.Pairwise fun x y => y.priority ≤ x.priority) ∧
  (∀ b : BayNo, (∃ e ∈ s.ps.queue, e.bay = b) ↔ (s.bay b).state.held = some .queued) ∧
  ∀ e ∈ s.ps.queue, e.priority = (s.bay e.bay).priority

/-- Outside LOADING and reset, a bay's switch is commanded on exactly when the bay is powered (R4). -/
def switchesAgree (s : State) : Prop := s.phase = .running → ∀ b : BayNo, (s.bay b).switch = (s.bay b).state.powered

/-- Only a LIVE port holds claims (R155). -/
def claimsLive (s : State) : Prop := ∀ (b : BayNo) (x : Port), (s.bay b).holder = some x → (s.port x).state = .live

/-- Every zone's duty lies between its minimum duty and 255 (R91), and its curve is a valid one (R92). -/
def dutiesBounded (s : State) : Prop :=
  ∀ z : ZoneNo, (s.zoneDesc z).minDuty ≤ 255 ∧ (s.zoneDesc z).minDuty ≤ (s.zone z).duty ∧ (s.zone z).duty ≤ 255 ∧
    validCurve (s.zone z).curve = true

/-- A bay's retry count is at most its retry limit plus 1, and above the limit only while the bay, or its saved state, is LOCKED
(R58); before normal work it is 0. -/
def retriesBounded (s : State) : Prop :=
  ∀ b : BayNo,
    (s.phase = .running → (s.bay b).retries ≤ (s.bayDesc b).retryLimit + 1 ∧
      ((s.bayDesc b).retryLimit < (s.bay b).retries → (s.bay b).state.held = some .locked)) ∧
    (s.phase ≠ .running → (s.bay b).retries = 0)

/-- A pattern's length add and step code lie in their ranges (R120). -/
def Pattern.legal (p : Pattern) : Prop := p.lengthAdd ≤ 16 ∧ 1 ≤ p.stepCode ∧ p.stepCode ≤ 20

/-- Pattern 0 is the fixed one and has no pending contents, and every pattern and all pending contents lie in their ranges
(R120). -/
def patternsLegal (s : State) : Prop :=
  s.pattern 0 = patternZero ∧ s.ie.pendingPatterns[(0 : PatternNo)] = none ∧
  ∀ n : PatternNo, (s.pattern n).legal ∧ ∀ p : Pattern, s.ie.pendingPatterns[n] = some p → p.legal

/-- The charge a bay's state calls for (R31). -/
def chargeDue (v : Bay) : Nat :=
  match v.state.held with
  | some .spinup => v.admittedSurge
  | some .active => v.admittedRunning
  | some .idle => 0
  | some .queued => 0
  | some .cooloff => 0
  | some .locked => 0
  | none => 0

/-- The sum of the charges held for a rail's bays. -/
def bayCharges (s : State) (r : RailNo) : Nat :=
  ((List.finRange 96).map fun b => if railOf s b = r then s.charge b else 0).sum

/-- The sum of the charges handed for a rail's fans. -/
def fanCharges (s : State) (r : RailNo) : Nat :=
  ((List.finRange 12).map fun f => if (s.fanDesc f).rail = r then (s.fan f).charge else 0).sum

/-- Outside LOADING and reset, each bay's charge is what its state calls for, and each rail's committed draw is its base draw plus
the charges of its bays and fans (R31). -/
def drawsBooked (s : State) : Prop :=
  s.phase = .running →
    (∀ b : BayNo, s.charge b = chargeDue (s.bay b)) ∧
    ∀ r : RailNo, (s.rail r).bayPart = bayCharges s r ∧ (s.rail r).fanPart = fanCharges s r

/-- Outside LOADING and reset, OVER_LIMIT is set exactly when the committed draw exceeds the admit limit (R52). -/
def overLimitAgrees (s : State) : Prop :=
  s.phase = .running → ∀ r : RailNo, (s.rail r).overLimit = decide ((s.rail r).admitLimit < committed s r)

/-- Each context holds a lingering order, no two contexts name one slot, each names a bay whose lingering link names it back, and
each link has its context (R14, R147). -/
def linksAgree (s : State) : Prop :=
  (s.oi.contexts.map fun c => (c.port, c.slot)).Nodup ∧
  (∀ c ∈ s.oi.contexts, c.linger.isSome ∧ (s.bay (bayOf (argByte c.args 4))).link = some (c.port, c.slot)) ∧
  ∀ (b : BayNo) (l : Port × SlotNo), (s.bay b).link = some l →
    ∃ c ∈ s.oi.contexts, c.port = l.1 ∧ c.slot = l.2 ∧ bayOf (argByte c.args 4) = b

/-- The record at a place holds a body after its update count. -/
def recordShows (s : State) (base : Nat) (body : List Byte) : Prop :=
  Memory.readRun s.xm (base + 2) body.length = body

/-- Fan f's record shows its state, count, duty, charge and last evaluation; its speed and period are those of the last
evaluation (R116). -/
def fanRecordShows (s : State) (f : FanNo) : Prop :=
  Memory.readRun s.xm (fanBase f + 2) 2 = [byteOf (fanFlags (s.fan f)), byteOf (s.fan f).duty] ∧
  Memory.readRun s.xm (fanBase f + 10) 6 = le16 (s.fan f).charge ++ le32 (uptimeCode (s.fan f).lastEvaluation)

/-- Drawer d's record shows its entry, and the drawer is OPEN exactly while its debounced level is low (R23, R170). -/
def drawerRecordShows (s : State) (d : DrawerNo) : Prop :=
  recordShows s (drawerBase d) (drawerBody s d) ∧ ((s.drawer d).state = .opened ↔ (s.drawer d).line.level = false)

/-- Every published record shows what it publishes: the event list header always, the live record outside RESET_N low, and in normal
work every record of the tables (R25, R33, R71, R101, R116, R168, R170, R171, R173). The supply state stays BOTH during LOADING
(R28). -/
def recordsAgree (s : State) : Prop :=
  recordShows s eventHeaderBase (le16 (eventIndex (nextSequence s.ew.latest)) ++ le32 s.ew.latest.toNat) ∧
  (s.phase ≠ .inReset → recordShows s liveBase (liveBody s)) ∧ (s.phase = .loading → s.ps.supply = .both) ∧
  (s.phase = .running →
    recordShows s descriptionBase (descriptionBody s) ∧ recordShows s profileBase (profileBody s) ∧
    recordShows s queueBase (queueBody s) ∧ (∀ b : BayNo, recordShows s (bayBase b) (bayBody s b)) ∧
    (∀ d : DrawerNo, drawerRecordShows s d) ∧ (∀ r : RailNo, recordShows s (railBase r) (railBody s r)) ∧
    (∀ z : ZoneNo, recordShows s (zoneBase z) (zoneBody s z)) ∧
    (∀ n : SensorNo, recordShows s (sensorBase n) (sensorBody s n)) ∧ ∀ f : FanNo, fanRecordShows s f)

/-! ### What a command leaves -/

/-- A run of addresses: where it starts and how long it is. -/
abbrev Region := Nat × Nat

/-- Whether an address lies in a run. -/
def Region.has (g : Region) (a : Nat) : Bool := decide (g.1 ≤ a ∧ a < g.1 + g.2)

/-- Every byte of the exchange memory outside the runs listed reads as before. -/
def untouched (s t : State) (gs : List Region) : Prop :=
  ∀ a : Nat, (∀ g ∈ gs, g.has a = false) → Memory.read t.xm a = Memory.read s.xm a

/-- The slot of port x and number n. -/
def slotRegion (x : Port) (n : SlotNo) : Region := (slotBase x n, 32)
/-- Bay b's record. -/
def bayRegion (b : BayNo) : Region := (bayBase b, 32)
/-- Rail r's record. -/
def railRegion (r : RailNo) : Region := (railBase r, 64)
/-- Zone z's record. -/
def zoneRegion (z : ZoneNo) : Region := (zoneBase z, 64)
/-- Drawer d's record. -/
def drawerRegion (d : DrawerNo) : Region := (drawerBase d, 16)
/-- Fan f's record. -/
def fanRegion (f : FanNo) : Region := (fanBase f, 16)
/-- Sensor n's record. -/
def sensorRegion (n : SensorNo) : Region := (sensorBase n, 16)
/-- The queue view. -/
def queueRegion : Region := (queueBase, 128)
/-- The live record. -/
def liveRegion : Region := (liveBase, 9)
/-- The profile record. -/
def profileRegion : Region := (profileBase, 50)
/-- The event list header. -/
def eventHeaderRegion : Region := (eventHeaderBase, 8)
/-- The entry of the next event after sequence number q. -/
def eventRegion (q : BitVec 32) : Region := (eventListBase + 16 * eventIndex (nextSequence q), 16)

/-- The records of all bays. -/
def bayArea : Region := (0x1000, 0xC00)
/-- The event entries. -/
def eventArea : Region := (0x2000, 0x1000)

/-- The slot of the order that a bay's lingering link names, if it has a link. -/
def linkRegions (v : Bay) : List Region :=
  match v.link with
  | some l => [slotRegion l.1 l.2]
  | none => []

/-- A port unit that a command may only have notified: NOTICE may have gained bits and messages may have gone out. -/
def onlyNotified (p q : PortUnit) : Prop :=
  q = { p with notice := q.notice, messages := q.messages } ∧ p.notice ||| q.notice = q.notice

/-- A command that may only have notified the ports. -/
def portsNotified (s t : State) : Prop := onlyNotified s.pa t.pa ∧ onlyNotified s.pb t.pb

/-- Nothing but the bays, the rails, the charges, the queue, the order contexts, the records, the events and the notices may
differ. -/
def onlyBaysAndPower (s t : State) : Prop :=
  t = { s with
    bc := { s.bc with bays := t.bc.bays }
    ps := { s.ps with rails := t.ps.rails, charges := t.ps.charges, queue := t.ps.queue }
    oi := { s.oi with contexts := t.oi.contexts }
    ew := t.ew, xm := t.xm, pa := t.pa, pb := t.pb } ∧
  portsNotified s t

/-- Nothing but what onlyBaysAndPower lets differ, and of the rails none but r. -/
def onlyBaysAndRail (r : RailNo) (s t : State) : Prop :=
  onlyBaysAndPower s t ∧ ∀ q : RailNo, q ≠ r → t.rail q = s.rail q

/-- A bay is left with its charge and its place among the entries of the queue, or it was QUEUED and an examination has admitted it
and taken it from the queue. -/
def leftOrAdmitted (s t : State) (b : BayNo) : Prop :=
  (t.bay b = s.bay b ∧ t.charge b = s.charge b ∧
    (t.ps.queue.filter fun e => decide (e.bay = b)) = s.ps.queue.filter fun e => decide (e.bay = b)) ∨
  ((s.bay b).state = .seated .queued ∧ (t.bay b).state = .seated .spinup ∧ (t.bay b).switch = true ∧
    ∀ e ∈ t.ps.queue, e.bay ≠ b)

/-- The records of all rails. -/
def railRegions : List Region := (List.finRange 4).map railRegion

/-- The records that an examination of rail r may rewrite: the bays', the rail's, the queue view and the event list. -/
def examinationRegions (r : RailNo) : List Region := [bayArea, railRegion r, queueRegion, eventHeaderRegion, eventArea]

/-- A rail stands as an examination leaves it: with no candidate, or one that PAUSED or STAGGER holds back, BLOCKED is clear, and a
candidate that does not fit blocks the rail (R39, R41). -/
def examined (s : State) (r : RailNo) : Prop :=
  match candidate s r with
  | none => (s.rail r).blocked = none
  | some e =>
    if committed s r + (profileOf s e.bay).surge ≤ (s.rail r).admitLimit then
      (s.rail r).blocked = none ∧ ((s.rail r).paused = true ∨ (s.rail r).stagger = true)
    else (s.rail r).blocked = some e.bay

/-- A set fault flag of a bay has no effect: its switch is commanded off, or its inrush blank runs (R54, R55). -/
def faultDisregarded (s : State) (b : BayNo) : Prop :=
  (s.bay b).state.powered = false ∨
  ∃ u : Uptime, (s.bay b).switchOn = .admitted u ∧ uptimeReached s.uptime (uptimeAfter u s.dl.desc.inrushBlank) = false

/-- A frame shows a bay what its state stands for, so that its presence level changes nothing (R7 to R12). -/
def settled (s : State) (f : ScanFrame) (b : BayNo) : Prop :=
  match (s.bay b).state with
  | .disabled => True
  | .absent => f.presence.getLsbD b.val = false
  | .arriving => f.presence.getLsbD b.val = true ∧ debounceOver s b = false
  | .seated _ => f.presence.getLsbD b.val = true
  | .leaving _ => f.presence.getLsbD b.val = false ∧ debounceOver s b = false

/-- An order of port x in slot n has left everything but its slot, the turn and the notices. -/
def onlyAnswered (s t : State) (x : Port) (n : SlotNo) : Prop :=
  t = { s with oi := { s.oi with turn := otherPort x }, xm := t.xm, pa := t.pa, pb := t.pb } ∧ portsNotified s t ∧
  untouched s t [slotRegion x n]

/-- The part stands ready for one order of port x in slot n: normal work, the port LIVE, no post waiting, and no taken order in
the slot. -/
def readyFor (s : State) (x : Port) (n : SlotNo) : Prop :=
  s.phase = .running ∧ (s.port x).state = .live ∧ s.pa.post = 0 ∧ s.pb.post = 0 ∧ contextOf s x n = none

/-- The order of slot n of port x has finished with an answer: DONE, result and data in the slot, and the slot's bit in NOTICE
(R144). -/
def slotFinished (t : State) (x : Port) (n : SlotNo) (o : Answer) : Prop :=
  slotState t x n = slotDone ∧ Memory.readRun t.xm (slotBase x n + 24) 8 = o.bytes ∧
  (t.port x).notice.getLsbD n.val = true

/-- Order c of port x in slot n is refused with an answer and changes nothing but its slot, the turn and the notices. -/
def refusedWith (s : State) (c : Instr) (x : Port) (n : SlotNo) (o : Answer) : Prop :=
  ∃ t, exec c s = .next t ∧ slotFinished t x n o ∧ onlyAnswered s t x n

/-! ### What an image says (R178 to R181)

Here g k is the byte that a read of the image returns at place k, and e k the byte at place k of one entry. -/

/-- The 16-bit field at places k and k + 1, little-endian (R179). -/
def fieldAt (g : Nat → Nat) (k : Nat) : Nat := g k + 256 * g (k + 1)

/-- The signed 16-bit temperature at places k and k + 1 (R179). -/
def tempAt (g : Nat → Nat) (k : Nat) : Int :=
  if fieldAt g k < 32768 then fieldAt g k else (fieldAt g k : Int) - 65536

/-- A temperature taken to the nearer end of −80 to 300 h°C (R181). -/
def tempWithin (t : Int) : Int := max (-80) (min 300 t)

/-- Entry n of the section at an offset with entries of a size (R179). -/
def entryAt (g : Nat → Nat) (offset size n : Nat) : Nat → Nat := fun k => g (offset + size * n + k)

/-- The section at an offset with a size is given: it lies within bytes 8 to L − 3 (R179). -/
def given (g : Nat → Nat) (offset size : Nat) : Prop := 8 ≤ offset ∧ offset + size ≤ fieldAt g 4 - 2

/-- The number of points of a zone entry's curve (R181). -/
def pointCount (e : Nat → Nat) : Nat := max 1 (min 6 (e 0))

/-- Point i, from 0, of a zone entry's curve, its temperature within the range (R179, R181). -/
def pointAt (e : Nat → Nat) (i : Nat) : CurvePoint := { temp := tempWithin (tempAt e (1 + 3 * i)), duty := e (3 + 3 * i) }

/-- An image that passed the five checks is structurally unusable (R180). Bays of one drawer byte of 4 to 254 name no drawer
(DESIGN CHOICE, unsafe: notes/assumptions/43.md). -/
def structureFails (g : Nat → Nat) : Prop :=
  g 3 = 0 ∨ 96 < g 3 ∨
  (given g 0x0040 0x300 ∧ ∃ b : BayNo, b.val < g 3 ∧ entryAt g 0x0040 8 b.val 0 ≠ 0 ∧
    (3 < entryAt g 0x0040 8 b.val 2 ∨ 3 < entryAt g 0x0040 8 b.val 3)) ∨
  (given g 0x03C0 0xC0 ∧ ∃ f : FanNo, entryAt g 0x03C0 16 f.val 0 ≠ 0 ∧
    (3 < entryAt g 0x03C0 16 f.val 1 ∨ 3 < entryAt g 0x03C0 16 f.val 2)) ∨
  (given g 0x0540 0x40 ∧ ∃ n : SensorNo, entryAt g 0x0540 4 n.val 0 ≠ 0 ∧ 3 < entryAt g 0x0540 4 n.val 2) ∨
  (given g 0x0040 0x300 ∧ ∃ w : DrawerNo,
    24 < ((List.finRange 96).filter fun b =>
      decide (b.val < g 3 ∧ entryAt g 0x0040 8 b.val 0 ≠ 0 ∧ entryAt g 0x0040 8 b.val 1 = w.val)).length) ∨
  (given g 0x0480 0xC0 ∧ ∃ (z : ZoneNo) (i : Fin 5), i.val + 1 < pointCount (entryAt g 0x0480 48 z.val) ∧
    ((pointAt (entryAt g 0x0480 48 z.val) (i.val + 1)).temp ≤ (pointAt (entryAt g 0x0480 48 z.val) i.val).temp ∨
      (pointAt (entryAt g 0x0480 48 z.val) (i.val + 1)).duty < (pointAt (entryAt g 0x0480 48 z.val) i.val).duty))

/-- The check that rejects an image with a reason fails: the five of R178 and the structural check of R180. -/
def checkFails (g : Nat → Nat) (r : DescReason) : Prop :=
  match r with
  | .none => False
  | .noResponse => (∀ k : Fin 6, g k.val = 0xFF) ∨ ∀ k : Fin 6, g k.val = 0x00
  | .badSignature => g 0 ≠ 0xA5 ∨ g 1 ≠ 0x3C
  | .badVersion => g 2 ≠ 1
  | .badLength => fieldAt g 4 < 64 ∨ 4096 < fieldAt g 4
  | .badChecksum => ((List.range (fieldAt g 4 - 2)).map g).sum % 65536 ≠ fieldAt g (fieldAt g 4 - 2)
  | .badStructure => structureFails g

/-- A bay entry's fields, within their ranges (R179, R181); a mapping above 3, which only an unchecked entry may hold, is 0
(R180). -/
def bayGiven (e : Nat → Nat) (d : BayDesc) : Prop :=
  d.fitted = decide (e 0 ≠ 0) ∧ (∀ w : DrawerNo, d.drawer = some w ↔ e 1 = w.val) ∧
  d.rail.val = (if e 2 ≤ 3 then e 2 else 0) ∧ d.zone.val = (if e 3 ≤ 3 then e 3 else 0) ∧
  d.policy = (if e 4 % 2 = 1 then .hold else .auto) ∧ d.altPhase = decide (e 4 / 2 % 2 = 1) ∧
  d.priority.val = min 3 (e 5 % 16) ∧ d.profile.val = min 7 (e 5 / 16) ∧ d.retryLimit = min 7 (e 6) ∧
  d.coolOff = max 1 (min 60 (e 7))

/-- A profile entry's fields, within their ranges (R179, R181). -/
def profileGiven (e : Nat → Nat) (d : Profile) : Prop :=
  d.surge = fieldAt e 0 ∧ d.surgeTime = max 1 (min 600 (fieldAt e 2)) ∧ d.running = min (fieldAt e 0) (fieldAt e 4)

/-- A rail entry's fields, within their ranges (R179, R181). -/
def railGiven (e : Nat → Nat) (d : RailDesc) : Prop :=
  d.dualCeiling = fieldAt e 0 ∧ d.singleCeiling = min (fieldAt e 0) (fieldAt e 2) ∧ d.base = fieldAt e 4 ∧ d.stagger = e 6 ∧
  d.level.val = min 7 (e 7) ∧ d.holdOff = min 30 (e 8)

/-- A fan entry's fields, within their ranges, the full draw before the idle draw (R179, R181); a mapping above 3 is 0 (R180). -/
def fanGiven (e : Nat → Nat) (d : FanDesc) : Prop :=
  d.fitted = decide (e 0 ≠ 0) ∧ d.zone.val = (if e 1 ≤ 3 then e 1 else 0) ∧ d.rail.val = (if e 2 ≤ 3 then e 2 else 0) ∧
  d.pulses = max 1 (min 4 (e 3)) ∧ d.full = min 3000 (fieldAt e 6) ∧ d.idle = min d.full (fieldAt e 4) ∧
  d.minRpm = fieldAt e 8

/-- A zone entry's fields, within their ranges (R179, R181); the drive offset is read as an unsigned byte (DESIGN CHOICE, unsafe:
notes/assumptions/23.md). -/
def zoneGiven (e : Nat → Nat) (d : ZoneDesc) : Prop :=
  d.curve = (List.range (pointCount e)).map (pointAt e) ∧ d.drawerFloor = e 19 ∧ d.bump = min 128 (e 20) ∧
  d.upStep = max 1 (e 21) ∧ d.downStep = max 1 (e 22) ∧ d.minDuty = e 23 ∧ d.driveOffset = min 80 (e 24) ∧
  d.warn = tempWithin (tempAt e 26) ∧ d.critical = tempWithin (tempAt e 28)

/-- A sensor entry's fields, within their ranges (R179, R181); a mapping above 3 is 0 (R180). -/
def sensorGiven (e : Nat → Nat) (d : SensorDesc) : Prop :=
  d.fitted = decide (e 0 ≠ 0) ∧ d.address = max 0x08 (min 0x77 (e 1)) ∧ d.zone.val = (if e 2 ≤ 3 then e 2 else 0)

/-- A colour's two levels at places k and k + 1 of a pattern entry, each at most 15 (R179, R181). -/
def colourGiven (e : Nat → Nat) (k : Nat) (c : Colour) : Prop :=
  c.green.val = min 15 (e k) ∧ c.amber.val = min 15 (e (k + 1))

/-- A pattern entry's fields, within their ranges: place 4j + i of the step codes in bits 2i and 2i + 1 of byte 9 + j (R179,
R181). -/
def patternGiven (e : Nat → Nat) (p : Pattern) : Prop :=
  p.lengthAdd = min 16 (e 0) ∧ p.stepCode = max 1 (min 20 (e 1)) ∧ p.stretch = decide (e 2 % 2 = 1) ∧
  p.blend = decide (e 2 / 2 % 2 = 1) ∧ colourGiven e 3 p.colour1 ∧ colourGiven e 5 p.colour2 ∧ colourGiven e 7 p.colour3 ∧
  ∀ i : Fin 24, p.steps[i].val = e (9 + i.val / 4) / 4 ^ (i.val % 4) % 4

/-- A pattern number of the maps section; above 31 it is taken as 0 (R181). -/
def numberGiven (e : Nat → Nat) (k : Nat) (n : PatternNo) : Prop := n.val = if e k ≤ 31 then e k else 0

/-- The fields of the maps section: the two maps by state code, then the locate and the fault pattern number (R179, R181). -/
def mapsGiven (e : Nat → Nat) (d : Description) : Prop :=
  (∀ i : Fin 10, numberGiven e i.val d.normalMap[i] ∧ numberGiven e (10 + i.val) d.serviceMap[i]) ∧
  numberGiven e 20 d.locatePattern ∧ numberGiven e 21 d.faultPattern

/-- The fields of the timing section, within their ranges (R179, R181). -/
def timingGiven (e : Nat → Nat) (d : Description) : Prop :=
  d.presenceDebounce = max 50 (min 2000 (fieldAt e 0)) ∧ d.drawerSettle = min 10 (e 2) ∧ d.heartbeatTimeout = e 3 ∧
  d.staleTime = max 5 (min 300 (fieldAt e 4)) ∧ d.failsafeDuty = e 6 ∧ d.inrushBlank = e 7 ∧
  d.blankingTime = max 100 (min 5000 (fieldAt e 8))

/-- A temperature lies outside −80 to 300 h°C (R181). -/
def tempOut (t : Int) : Prop := t < -80 ∨ 300 < t

/-- A field of a bay entry lies outside its range (R181). -/
def bayOut (e : Nat → Nat) : Prop :=
  (3 < e 1 ∧ e 1 ≠ 0xFF) ∨ 3 < e 5 % 16 ∨ 7 < e 5 / 16 ∨ 7 < e 6 ∨ e 7 < 1 ∨ 60 < e 7

/-- A field of a profile entry lies outside its range (R181). -/
def profileOut (e : Nat → Nat) : Prop := fieldAt e 2 < 1 ∨ 600 < fieldAt e 2 ∨ fieldAt e 0 < fieldAt e 4

/-- A field of a rail entry lies outside its range (R181). -/
def railOut (e : Nat → Nat) : Prop := fieldAt e 0 < fieldAt e 2 ∨ 7 < e 7 ∨ 30 < e 8

/-- A field of a fan entry lies outside its range, the idle draw against the clamped full draw (R181). -/
def fanOut (e : Nat → Nat) : Prop := 3000 < fieldAt e 6 ∨ min 3000 (fieldAt e 6) < fieldAt e 4 ∨ e 3 < 1 ∨ 4 < e 3

/-- A field of a zone entry lies outside its range (R181). -/
def zoneOut (e : Nat → Nat) : Prop :=
  e 0 < 1 ∨ 6 < e 0 ∨ (∃ i : Fin 6, tempOut (tempAt e (1 + 3 * i.val))) ∨ 128 < e 20 ∨ e 21 < 1 ∨ e 22 < 1 ∨ 80 < e 24 ∨
  tempOut (tempAt e 26) ∨ tempOut (tempAt e 28)

/-- The address of a sensor entry lies outside its range (R181). -/
def sensorOut (e : Nat → Nat) : Prop := e 1 < 0x08 ∨ 0x77 < e 1

/-- A field of a pattern entry lies outside its range (R181). -/
def patternOut (e : Nat → Nat) : Prop := 16 < e 0 ∨ e 1 < 1 ∨ 20 < e 1 ∨ ∃ k : Fin 6, 15 < e (3 + k.val)

/-- A pattern number of the maps section lies outside its range (R181). -/
def mapsOut (e : Nat → Nat) : Prop := ∃ k : Fin 22, 31 < e k.val

/-- A field of the timing section lies outside its range (R181). -/
def timingOut (e : Nat → Nat) : Prop :=
  fieldAt e 0 < 50 ∨ 2000 < fieldAt e 0 ∨ 10 < e 2 ∨ fieldAt e 4 < 5 ∨ 300 < fieldAt e 4 ∨ fieldAt e 8 < 100 ∨
  5000 < fieldAt e 8

/-- A field of a given section lies outside its range, in the order of the table of 11.1 (R181). Fields of unfitted entries and of
curve points beyond the count are among them (DEDUCED, unsafe: notes/assumptions/22.md). -/
def fieldOut (g : Nat → Nat) : Prop :=
  (given g 0x0040 0x300 ∧ ∃ b : BayNo, bayOut (entryAt g 0x0040 8 b.val)) ∨
  (given g 0x0340 0x40 ∧ ∃ p : ProfileNo, profileOut (entryAt g 0x0340 8 p.val)) ∨
  (given g 0x0380 0x40 ∧ ∃ r : RailNo, railOut (entryAt g 0x0380 16 r.val)) ∨
  (given g 0x03C0 0xC0 ∧ ∃ f : FanNo, fanOut (entryAt g 0x03C0 16 f.val)) ∨
  (given g 0x0480 0xC0 ∧ ∃ z : ZoneNo, zoneOut (entryAt g 0x0480 48 z.val)) ∨
  (given g 0x0540 0x40 ∧ ∃ n : SensorNo, sensorOut (entryAt g 0x0540 4 n.val)) ∨
  (given g 0x0580 0x3E0 ∧ ∃ n : Fin 31, patternOut (entryAt g 0x0580 32 n.val)) ∨
  (given g 0x0960 0x20 ∧ mapsOut (entryAt g 0x0960 0x20 0)) ∨
  (given g 0x0980 0x20 ∧ timingOut (entryAt g 0x0980 0x20 0))

/-- A description that holds the header's bay count, the fields of every given section of an image, and another description's where
a section is not given (R179). -/
def describes (g : Nat → Nat) (other d : Description) : Prop :=
  d.bayCount = g 3 ∧
  (given g 0x0008 0x30 → ∀ i : Fin 16, d.serial[i].toNat = g (8 + i.val)) ∧
  (¬ given g 0x0008 0x30 → d.serial = other.serial) ∧
  (given g 0x0040 0x300 → ∀ b : BayNo, bayGiven (entryAt g 0x0040 8 b.val) d.bays[b]) ∧
  (¬ given g 0x0040 0x300 → d.bays = other.bays) ∧
  (given g 0x0340 0x40 → ∀ p : ProfileNo, profileGiven (entryAt g 0x0340 8 p.val) d.profiles[p]) ∧
  (¬ given g 0x0340 0x40 → d.profiles = other.profiles) ∧
  (given g 0x0380 0x40 → ∀ r : RailNo, railGiven (entryAt g 0x0380 16 r.val) d.rails[r]) ∧
  (¬ given g 0x0380 0x40 → d.rails = other.rails) ∧
  (given g 0x03C0 0xC0 → ∀ f : FanNo, fanGiven (entryAt g 0x03C0 16 f.val) d.fans[f]) ∧
  (¬ given g 0x03C0 0xC0 → d.fans = other.fans) ∧
  (given g 0x0480 0xC0 → ∀ z : ZoneNo, zoneGiven (entryAt g 0x0480 48 z.val) d.zones[z]) ∧
  (¬ given g 0x0480 0xC0 → d.zones = other.zones) ∧
  (given g 0x0540 0x40 → ∀ n : SensorNo, sensorGiven (entryAt g 0x0540 4 n.val) d.sensors[n]) ∧
  (¬ given g 0x0540 0x40 → d.sensors = other.sensors) ∧
  d.patterns[(0 : PatternNo)] = other.patterns[(0 : PatternNo)] ∧
  (given g 0x0580 0x3E0 → ∀ n : PatternNo, 1 ≤ n.val → patternGiven (entryAt g 0x0580 32 (n.val - 1)) d.patterns[n]) ∧
  (¬ given g 0x0580 0x3E0 → d.patterns = other.patterns) ∧
  (given g 0x0960 0x20 → mapsGiven (entryAt g 0x0960 0x20 0) d) ∧
  (¬ given g 0x0960 0x20 →
    d.normalMap = other.normalMap ∧ d.serviceMap = other.serviceMap ∧ d.locatePattern = other.locatePattern ∧
    d.faultPattern = other.faultPattern) ∧
  (given g 0x0980 0x20 → timingGiven (entryAt g 0x0980 0x20 0) d) ∧
  (¬ given g 0x0980 0x20 →
    d.presenceDebounce = other.presenceDebounce ∧ d.drawerSettle = other.drawerSettle ∧
    d.heartbeatTimeout = other.heartbeatTimeout ∧ d.staleTime = other.staleTime ∧ d.failsafeDuty = other.failsafeDuty ∧
    d.inrushBlank = other.inrushBlank ∧ d.blankingTime = other.blankingTime)

/-! ### Events and the end of a round -/

/-- The event with the next sequence number after s has been appended: its entry and the header's latest sequence number
(R173). -/
def eventLogged (s t : State) (e : Event) : Prop :=
  t.ew.latest = nextSequence s.ew.latest ∧
  Memory.readRun t.xm (eventListBase + 16 * eventIndex t.ew.latest) 16 = eventEntry t.ew.latest s.uptime e

/-- The sequence number n events after q (R174). -/
def sequenceAfter (q : BitVec 32) (n : Nat) : BitVec 32 :=
  match n with
  | 0 => q
  | k + 1 => nextSequence (sequenceAfter q k)

/-- Exactly these events have been appended, in this order, with the uptime of s; at most 255 of them, so that none has replaced
another (R173, R174). -/
def eventsLogged (s t : State) (es : List Event) : Prop :=
  t.ew.latest = sequenceAfter s.ew.latest es.length ∧
  ∀ (i : Nat) (e : Event), es[i]? = some e →
    Memory.readRun t.xm (eventListBase + 16 * eventIndex (sequenceAfter s.ew.latest (i + 1))) 16 =
      eventEntry (sequenceAfter s.ew.latest (i + 1)) s.uptime e

/-- A source gives a zone a term: a FRESH sensor mapped to it its value, and a mapped bay with a drive temperature that temperature
less the drive offset, raised to −80 h°C (R76). -/
def givesTerm (s : State) (z : ZoneNo) (h : Hottest) (v : Int) : Prop :=
  match h with
  | .none => False
  | .sensor n => (s.sensorDesc n).zone = z ∧ (s.sensor n).state = .fresh ∧ (s.sensor n).value = some v
  | .bay b =>
    (s.bayDesc b).zone = z ∧ ∃ d : Int, (s.bay b).driveTemp = some d ∧ v = max (-80) (d - (s.zoneDesc z).driveOffset)

/-- The place of a source among those of equal terms: sensors before bays, each kind in ascending number (R76). -/
def Hottest.rank (h : Hottest) : Nat :=
  match h with
  | .none => 0
  | .sensor n => n.val
  | .bay b => 16 + b.val

/-- The events of a zone at the end of a round, by its fields before and after: its sight, then warn, then critical (R77, R78,
R81). -/
def roundEvents (s t : State) (z : ZoneNo) : List Event :=
  (if (t.sense z).sight = .blind ∧ (s.sense z).sight ≠ .blind then [eventZoneBlind z (s.sense z).sight]
    else if (t.sense z).sight = .seeing ∧ (s.sense z).sight = .blind then
      [eventZoneSees z ((t.sense z).temp.getD 0) (t.sense z).hottest]
    else []) ++
  (if (t.sense z).warn ≠ (s.sense z).warn then
      [eventZoneWarn z (t.sense z).warn ((t.sense z).temp.getD 0) (s.zoneDesc z).warn]
    else []) ++
  (if (t.sense z).critical ≠ (s.sense z).critical then
      [eventZoneCritical z (t.sense z).critical ((t.sense z).temp.getD 0) (s.zoneDesc z).critical]
    else [])

end Sys2Proof.Machine
end

