-- ==== Sys2Proof/WellFormed.lean ====
section
/-! DEFINITION. Which commands are well formed. The index types of the operands rule out most ill-formed commands; two
checks are left: an image no longer than the EEPROM's image area, and a port write inside one 32-bit word. -/

namespace Sys2Proof

/-- How many bytes a port write stores (R139). -/
def WriteData.size : WriteData → Nat
  | .byte _ => 1
  | .half _ => 2
  | .word _ => 4

/-- A command is well formed when its image is at most 4096 bytes (section 11.1), and its port write lies inside one 32-bit
word, since a request over several words is a series of single-word accesses (R139). -/
def Instr.wellFormed : Instr → Bool
  | .endOfLoading image _ _ _ => decide (image.length ≤ 4096)
  | .windowWrite _ offset data => decide (offset.toNat % 4 + data.size ≤ 4)
  | _ => true

/-- Whether a command is a whole order: one of the fourteen kinds of R154. -/
def Instr.isOrder (c : Instr) : Bool :=
  match c with
  | .claimBays _ _ _ _ => true
  | .releaseBays _ _ _ _ => true
  | .bayPowerOn _ _ _ _ _ _ _ => true
  | .bayPowerOff _ _ _ => true
  | .clearBayFault _ _ _ => true
  | .setBayPolicy _ _ _ _ _ => true
  | .setProfile _ _ _ _ _ _ => true
  | .setIndication _ _ _ _ _ => true
  | .locate _ _ _ _ _ => true
  | .loadPattern _ _ _ _ _ _ _ _ => true
  | .setZoneCurve _ _ _ _ _ => true
  | .setZoneOverride _ _ _ _ _ _ => true
  | .setRailLimit _ _ _ _ _ => true
  | .cancelOrder _ _ _ => true
  | .powerOnReset => false
  | .pinReset => false
  | .endOfLoading _ _ _ _ => false
  | .uptimeTick => false
  | .bayScanSample _ => false
  | .inserted _ => false
  | .removalConfirmed _ => false
  | .surgeEnd _ => false
  | .coolOffEnd _ => false
  | .retryClearance _ => false
  | .drawerLineSample _ => false
  | .drawerDebounceEnd _ => false
  | .settleTimerEnd _ => false
  | .supplyLineSample _ => false
  | .supplyDebounceEnd _ => false
  | .staggerEnd _ => false
  | .risingCrossing _ _ => false
  | .fallingCrossing _ _ => false
  | .holdOffEnd _ => false
  | .temperatureRoundStart => false
  | .sensorReadComplete _ => false
  | .sensorReadTimeout => false
  | .coolingPeriod => false
  | .overrideExpiry _ => false
  | .tachEdge _ _ => false
  | .tachTimeout _ _ => false
  | .fanEvaluation => false
  | .indicatorRefresh => false
  | .loadingDarkFrame => false
  | .locateExpiry _ => false
  | .postWrite _ _ => false
  | .noticeWrite _ _ => false
  | .noticeEnableWrite _ _ => false
  | .heartbeat _ _ => false
  | .windowWrite _ _ _ => false
  | .silenceTimerEnd _ => false
  | .takePost => false
  | .waitLimitExpiry _ _ => false
  | .resetNGoesLow => false

end Sys2Proof
end

