-- ==== Sys2Proof/Certificates/Slice0/Obligations.lean ====
section
/-! DEFINITION. The statements for the provers. Each says what a command or the part does, in the words of Safety. -/

open Sys2Proof Sys2Proof.Machine

/-! ### The part as a machine -/

/-- A step carries out the command at the front of the queue with the rest of the queue, and an empty queue idles. The queue is
the model's own: it stands for what reaches the part from outside, one thing after another (notes/assumptions/1.md). -/
def Obligations.StepRunsTheFrontCommand : Prop :=
  (∀ (c : Instr) (rest : List Instr) (s : State),
    step { s with pending := c :: rest } = exec c { s with pending := rest }) ∧
  ∀ s : State, s.pending = [] → step s = .next s

/-- Every command answers a next state in every state, and leaves the queue of commands. The queue is the model's own
(notes/assumptions/1.md); that a command out of its moment or its phase changes nothing and that no command stops are read from
the spec by inference (notes/assumptions/3.md and 24.md). -/
def Obligations.EveryCommandCompletesAndLeavesTheQueue : Prop :=
  ∀ (c : Instr) (s : State), ∃ t, exec c s = .next t ∧ t.pending = s.pending

/-- What a power-on reset leaves in every table, field by field, by the reset columns and sentences of the chapters: R1, R2, R4,
R22, R27, R28, R31, R34, R66, R83, R84, R105, R120, R122, R127, R129, R133, R136, R138, R140, R146, R147, R160, R162, R173,
R178 and R183, with the defaults of R182. The profile table before the end of LOADING, that every sensor is unfitted and so UNFITTED
until then (R66 gives its fitted flag from the description, and LOST for a fitted one), the absence of a drawer's zone set and the
lights are the model's own (notes/assumptions/8.md), as is the one rewrite of the live record (notes/assumptions/5.md). -/
def Obligations.ResetLeavesTheTablesOfTheSpec : Prop :=
  State.reset.uptime = 0 ∧ State.reset.phase = .loading ∧ State.reset.dl.resetKind = .powerOn ∧
  State.reset.dl.warmRestarts = 0 ∧ State.reset.dl.csN = false ∧
  (∀ b : BayNo,
    ((State.reset.bay b).state = .absent ∧ (State.reset.bay b).switch = false ∧ (State.reset.bay b).holder = none ∧
      (State.reset.bay b).policy = .hold ∧ (State.reset.bay b).profile = 0 ∧ (State.reset.bay b).admittedSurge = 0 ∧
      (State.reset.bay b).admittedSurgeTime = 0 ∧ (State.reset.bay b).admittedRunning = 0 ∧
      (State.reset.bay b).priority = 1 ∧ (State.reset.bay b).retries = 0 ∧ (State.reset.bay b).debounce = none ∧
      (State.reset.bay b).surgeEnd = none ∧ (State.reset.bay b).coolOffEnd = none ∧
      (State.reset.bay b).activeSince = none ∧ (State.reset.bay b).switchOn = .absent ∧ (State.reset.bay b).link = none ∧
      (State.reset.bay b).driveTemp = none ∧ (State.reset.bay b).shown = { green := 0, amber := 0 }) ∧
    State.reset.bayDesc b =
      { fitted := true, drawer := some (Fin.ofNat 4 (b.val / 24)), rail := Fin.ofNat 4 (b.val / 24),
        zone := Fin.ofNat 4 (b.val / 24), policy := .hold, priority := 1, profile := 0, retryLimit := 2, coolOff := 10,
        altPhase := false } ∧
    State.reset.charge b = 0) ∧
  State.reset.bc.chain = { clk := false, load := false } ∧
  (∀ d : DrawerNo, (State.reset.drawer d).state = .closed ∧ (State.reset.drawer d).settleEnd = none ∧
    (State.reset.drawer d).line = { level := true, debounce := none } ∧ (State.reset.drawer d).zoneSet = 0) ∧
  (∀ r : RailNo,
    State.reset.railDesc r =
      { dualCeiling := 2400, singleCeiling := 1200, base := 100, stagger := 20, level := 5, holdOff := 2 } ∧
    (State.reset.rail r).dual = 2400 ∧ (State.reset.rail r).single = 1200 ∧ (State.reset.rail r).admitLimit = 2400 ∧
    (State.reset.rail r).trip = 2640 ∧ (State.reset.rail r).bayPart = 0 ∧ (State.reset.rail r).fanPart = 0 ∧
    committed State.reset r = 100 ∧ (State.reset.rail r).lastAdmission = none ∧ (State.reset.rail r).holdOffEnd = none ∧
    (State.reset.rail r).paused = false ∧ (State.reset.rail r).stagger = false ∧ (State.reset.rail r).blocked = none ∧
    (State.reset.rail r).overLimit = false) ∧
  State.reset.ps.supply = .both ∧ (∀ n : SupplyNo, State.reset.ps.lines[n] = { level := true, debounce := none }) ∧
  State.reset.ps.queue = [] ∧
  (∀ p : ProfileNo, State.reset.profile p = { surge := 250, surgeTime := 80, running := 80 }) ∧
  (∀ n : SensorNo,
    (State.reset.sensorDesc n).fitted = false ∧
    State.reset.sensor n =
      { state := .unfitted, failures := 0, lossLogged := false, value := none, clamped := false, raw := 0, lastGood := none,
        lastFailure := .none }) ∧
  (∀ (x : Port) (b : BayNo), State.reset.report x b = { lastCount := none, lastChange := none, fresh := none }) ∧
  State.reset.tu.reading = none ∧
  (∀ z : ZoneNo,
    State.reset.sense z = { temp := none, hottest := .none, sight := .unknown, warn := false, critical := false } ∧
    State.reset.zone z =
      { curve := [{ temp := 60, duty := 64 }, { temp := 80, duty := 128 }, { temp := 100, duty := 255 }], override := none
        sense := { temp := none, hottest := .none, sight := .unknown, warn := false, critical := false }
        demand := 255, source := .failsafe, failedFans := 0, drawerFloorInForce := false, failsafeFloorInForce := false
        target := 255, duty := 255, lastPeriod := none } ∧
    (State.reset.zoneDesc z).drawerFloor = 160 ∧ (State.reset.zoneDesc z).bump = 32 ∧
    (State.reset.zoneDesc z).upStep = 255 ∧ (State.reset.zoneDesc z).downStep = 8 ∧
    (State.reset.zoneDesc z).minDuty = 64) ∧
  (∀ f : FanNo,
    State.reset.fanDesc f =
      { fitted := true, zone := Fin.ofNat 4 (f.val / 3), rail := Fin.ofNat 4 (f.val / 3), idle := 20, full := 300,
        pulses := 2, minRpm := 1000 } ∧
    State.reset.fan f =
      { state := .starting, capture := .waiting, period := none, rpm := 0, count := 0, lastEvaluation := none, duty := 255,
        charge := 300 } ∧
    State.reset.cc.pwm[f] = 255) ∧
  ((List.finRange 9).map fun n : Fin 9 =>
      ((State.reset.pattern (Fin.ofNat 32 n.val)).stepCode,
        (State.reset.pattern (Fin.ofNat 32 n.val)).steps.toList.take 8)) =
    [(1, [0, 0, 0, 0, 0, 0, 0, 0]), (20, [1, 1, 1, 1, 1, 1, 1, 1]), (20, [1, 1, 1, 1, 1, 1, 1, 1]),
      (5, [1, 1, 1, 1, 0, 0, 0, 0]), (2, [1, 2, 1, 2, 1, 2, 1, 2]), (4, [1, 1, 2, 2, 1, 1, 2, 2]),
      (20, [1, 1, 1, 1, 1, 1, 1, 1]), (1, [1, 1, 0, 0, 1, 1, 0, 0]), (2, [1, 2, 3, 3, 2, 1, 0, 0])] ∧
  ((List.finRange 9).map fun n : Fin 9 =>
      ((State.reset.pattern (Fin.ofNat 32 n.val)).colour1, (State.reset.pattern (Fin.ofNat 32 n.val)).colour2,
        (State.reset.pattern (Fin.ofNat 32 n.val)).colour3)) =
    [({ green := 0, amber := 0 }, { green := 0, amber := 0 }, { green := 0, amber := 0 }),
      ({ green := 15, amber := 0 }, { green := 0, amber := 0 }, { green := 0, amber := 0 }),
      ({ green := 0, amber := 15 }, { green := 0, amber := 0 }, { green := 0, amber := 0 }),
      ({ green := 15, amber := 0 }, { green := 0, amber := 0 }, { green := 0, amber := 0 }),
      ({ green := 0, amber := 15 }, { green := 0, amber := 0 }, { green := 0, amber := 0 }),
      ({ green := 15, amber := 0 }, { green := 0, amber := 15 }, { green := 0, amber := 0 }),
      ({ green := 4, amber := 0 }, { green := 0, amber := 0 }, { green := 0, amber := 0 }),
      ({ green := 15, amber := 0 }, { green := 0, amber := 0 }, { green := 0, amber := 0 }),
      ({ green := 0, amber := 4 }, { green := 0, amber := 10 }, { green := 0, amber := 15 })] ∧
  (∀ n : PatternNo,
    (State.reset.pattern n).lengthAdd = 0 ∧ (State.reset.pattern n).stretch = decide (n = 8) ∧
    (State.reset.pattern n).blend = false ∧ State.reset.ie.pendingPatterns[n] = none ∧
    (8 < n.val → (State.reset.pattern n).stepCode = 20 ∧ ∀ i : Fin 24, (State.reset.pattern n).steps[i] = 0)) ∧
  (∀ b : BayNo, State.reset.locate b = { on := false, endAt := none } ∧ State.reset.layer .a b = 0 ∧
    State.reset.layer .b b = 0 ∧ State.reset.ie.lights[b] = { green := 0, amber := 0 }) ∧
  State.reset.ie.lines = { clk := false, data := false, latch := false } ∧
  (∀ x : Port, (State.reset.port x).post = 0 ∧ (State.reset.port x).notice = 0 ∧ (State.reset.port x).enable = 0 ∧
    (State.reset.port x).state = .awaiting ∧ (State.reset.port x).silenceEnd = none ∧
    (State.reset.port x).heartbeatSeen = false) ∧
  State.reset.oi = { contexts := [], turn := .a } ∧ State.reset.ew.latest = 0 ∧
  ∀ a : Nat, liveRegion.has a = false → Memory.read State.reset.xm a = 0

/-! ### Invariants -/

/-- The state after reset meets every invariant. That the live record is written once by then is an inference
(notes/assumptions/5.md). -/
def Obligations.ResetMeetsEveryInvariant : Prop :=
  memoryCanonical State.reset ∧ registersLegal State.reset ∧ queueAgrees State.reset ∧ switchesAgree State.reset ∧
  claimsLive State.reset ∧ dutiesBounded State.reset ∧ drawsBooked State.reset ∧ overLimitAgrees State.reset ∧
  linksAgree State.reset ∧ retriesBounded State.reset ∧ patternsLegal State.reset ∧ recordsAgree State.reset

/-- Every step keeps the canonical form of the exchange memory. -/
def Obligations.EveryStepKeepsTheMemoryCanonical : Prop :=
  ∀ s t : State, memoryCanonical s → step s = .next t → memoryCanonical t

/-- Every step leaves the register bits that do not exist at 0 (R140). -/
def Obligations.EveryStepKeepsTheRegistersLegal : Prop :=
  ∀ s t : State, registersLegal s → step s = .next t → registersLegal t

/-- Every step keeps the admission queue in agreement with the bay states, each bay in it at most once and at its own priority, with
priorities that never rise (R34 to R36). -/
def Obligations.EveryStepKeepsTheQueueInAgreement : Prop :=
  ∀ s t : State, queueAgrees s → step s = .next t → queueAgrees t

/-- Every step keeps each switch commanded on exactly in the powered states, outside LOADING, and the clock and the strobe of the scan
chains low between frames (R4). It keeps DSC_CS_N low exactly in LOADING, which reads the image (R178); that it is low to the end
of LOADING and high in reset is the model's own (notes/assumptions/42.md). -/
def Obligations.EveryStepKeepsTheSwitchesInAgreement : Prop :=
  (∀ s t : State, switchesAgree s → step s = .next t → switchesAgree t) ∧
  (∀ s t : State, s.bc.chain = { clk := false, load := false } → step s = .next t →
    t.bc.chain = { clk := false, load := false }) ∧
  ∀ s t : State, (s.dl.csN = false ↔ s.phase = .loading) → step s = .next t → (t.dl.csN = false ↔ t.phase = .loading)

/-- Every step keeps claims with LIVE ports only (R155). -/
def Obligations.EveryStepKeepsClaimsWithLivePorts : Prop :=
  ∀ s t : State, claimsLive s → step s = .next t → claimsLive t

/-- Every step keeps each zone's duty between its minimum duty and 255 (R91), and its curve valid (R92). -/
def Obligations.EveryStepKeepsTheDutiesBounded : Prop :=
  ∀ s t : State, dutiesBounded s → step s = .next t → dutiesBounded t

/-- Every step keeps each rail's committed draw the sum that the bay states and the fan charges call for (R31), and OVER_LIMIT set
exactly while the committed draw exceeds the admit limit (R52). -/
def Obligations.EveryStepKeepsTheBooksAndOverLimit : Prop :=
  ∀ s t : State, drawsBooked s → overLimitAgrees s → step s = .next t → drawsBooked t ∧ overLimitAgrees t

/-- Every step keeps lingering orders and lingering links naming each other (R14, R147). -/
def Obligations.EveryStepKeepsTheLinksInAgreement : Prop :=
  ∀ s t : State, linksAgree s → step s = .next t → linksAgree t

/-- Every step keeps each retry count at most the retry limit plus 1, and above the limit only with LOCKED (R58), and every pattern and
all pending contents in their ranges, with pattern 0 fixed (R120). -/
def Obligations.EveryStepKeepsTheRetriesAndPatternsLegal : Prop :=
  (∀ s t : State, retriesBounded s → step s = .next t → retriesBounded t) ∧
  ∀ s t : State, patternsLegal s → step s = .next t → patternsLegal t

/-- Every step keeps the published records showing what they publish: in normal work each bay, drawer, rail, zone, sensor and fan record,
the queue view and the identity block their entries, the live record outside RESET_N low, and the event list header always
(R25, R33, R71, R101, R116, R168, R170, R171, R173). That byte 23 of a bay record with no link, byte 27 of a zone record with no
override and byte 35 of a zone record with kind none are 0 is the model's own (notes/assumptions/37.md). -/
def Obligations.EveryStepKeepsTheRecordsInAgreement : Prop :=
  ∀ s t : State, recordsAgree s → step s = .next t → recordsAgree t

/-! ### The time base and the resets -/

/-- A tick raises the uptime by 1 and rewrites the live record with it, and nothing else (R1, R168). -/
def Obligations.TickRaisesTheUptimeAndTheLiveRecord : Prop :=
  ∀ s : State, s.phase ≠ .inReset →
    ∃ t, exec .uptimeTick s = .next t ∧
      t = { s with uptime := s.uptime + 1, xm := t.xm } ∧
      updateCount t liveBase = (updateCount s liveBase + 2) % 65536 ∧
      Memory.readRun t.xm (liveBase + 2) 7 =
        le32 (s.uptime + 1).toNat ++ [byteOf s.ps.supply.code, byteOf s.pa.state.code, byteOf s.pb.state.code] ∧
      untouched s t [liveRegion]

/-- A power-on reset leaves the reset state, but for what it does not reach: the backplane's enables, the rail currents, the LED
levels and the queue of commands. A pin reset leaves the same but for the kind, the count and the kept switch fields. RESET_N
low holds the fan outputs high and the clock and the strobe of the scan chains low, keeps the switch fields, and empties the
memory (R4, R97, R138, R183). What a reset does not reach, and that RESET_N low empties the memory and holds the reset values
at once, are inferences (notes/assumptions/9.md); State.reset itself holds chosen values (notes/assumptions/8.md) and the live
record written once (notes/assumptions/5.md), and that DSC_CS_N is high while RESET_N is low is chosen too
(notes/assumptions/42.md). -/
def Obligations.ResetsLeaveTheResetState : Prop :=
  ∀ s : State,
    (∃ t, exec .powerOnReset s = .next t ∧
      t = { State.reset with
        bc := { State.reset.bc with enables := s.bc.enables }
        ps := { State.reset.ps with rails := t.ps.rails }
        ie := { State.reset.ie with lights := s.ie.lights }
        pending := s.pending } ∧
      ∀ r : RailNo, t.rail r = { State.reset.rail r with sense := (s.rail r).sense }) ∧
    (∃ t p, exec .pinReset s = .next t ∧ exec .powerOnReset s = .next p ∧
      t = { p with
        dl := { p.dl with resetKind := .pin, warmRestarts := min 255 (s.dl.warmRestarts + 1) }
        bc := { p.bc with bays := t.bc.bays } } ∧
      ∀ b : BayNo, t.bay b = { p.bay b with switch := (s.bay b).switch }) ∧
    ∃ t, exec .resetNGoesLow s = .next t ∧ t.phase = .inReset ∧ t.xm = [] ∧ t.cc.pwm = Vector.replicate 12 255 ∧
      t.bc.enables = s.bc.enables ∧ t.bc.chain = { clk := false, load := false } ∧ t.ie.lights = s.ie.lights ∧
      t.dl.csN = true ∧ t.dl.resetKind = s.dl.resetKind ∧
      t.dl.warmRestarts = s.dl.warmRestarts ∧ ∀ b : BayNo, (t.bay b).switch = (s.bay b).switch

/-- The end of LOADING puts the description in force, starts the clocks of every block from that uptime, logs START first, with status,
reason, reset kind and warm-restart count, sets START on both ports, and leaves the fans and the zones as R32, R84 and R106 give
(R185). A port whose heartbeat was recorded is LIVE, its timer counted from there, with PEER for the other port (R162). The read of
the image has ended with DSC_CS_N high (R178), by the model's own choice no earlier than here (notes/assumptions/42.md). -/
def Obligations.EndOfLoadingPutsTheDescriptionInForce : Prop :=
  ∀ (image : List Byte) (f : ScanFrame) (closed : BitVec 4) (good : BitVec 2) (s : State), s.phase = .loading →
    ∃ t, exec (.endOfLoading image f closed good) s = .next t ∧
      t.dl = { s.dl with
        phase := .running, status := (loadImage image).status, reason := (loadImage image).reason,
        desc := (loadImage image).desc, epoch := s.uptime, csN := true } ∧
      t.uptime = s.uptime ∧ t.pending = s.pending ∧ t.ps.queue = [] ∧ t.ps.profiles = t.dl.desc.profiles ∧
      t.tu.nextRound = s.uptime ∧ t.cc.nextPeriod = s.uptime + 1000 ∧ t.fm.nextEvaluation = s.uptime + 1000 ∧
      t.ie.nextFrame = s.uptime ∧
      (∀ z : ZoneNo, (t.zone z).duty = 255 ∧ (t.zone z).curve = (t.zoneDesc z).curve) ∧
      (∀ g : FanNo, t.cc.pwm[g] = (if (t.fanDesc g).fitted then 255 else 0) ∧
        (t.fan g).state = (if (t.fanDesc g).fitted then .starting else .unfitted) ∧
        (t.fan g).charge = (if (t.fanDesc g).fitted then (t.fanDesc g).full else 0)) ∧
      (∀ n : SensorNo, (t.sensor n).state = (if (t.sensorDesc n).fitted then .lost else .unfitted)) ∧
      (∀ d : DrawerNo, (t.drawer d).state = (if closed.getLsbD d.val then .closed else .opened)) ∧
      t.ps.supply = supplyOf (good.getLsbD 0) (good.getLsbD 1) ∧
      Memory.readRun t.xm (eventListBase + 16 * eventIndex (nextSequence s.ew.latest)) 16 =
        eventEntry (nextSequence s.ew.latest) s.uptime
          { kind := 0x01, port := none, subject := noSubject, sense := false
            detail :=
              [byteOf t.dl.status.code, byteOf t.dl.reason.code, byteOf s.dl.resetKind.code, byteOf s.dl.warmRestarts] } ∧
      ∀ x : Port, (t.port x).notice &&& noticeStart = noticeStart ∧
        ((s.port x).heartbeatSeen = true →
          (t.port x).state = .live ∧ (t.port x).heartbeatSeen = false ∧
          (t.port x).silenceEnd =
            (if t.dl.desc.heartbeatTimeout = 0 then none
              else some (uptimeAfter s.uptime (1000 * t.dl.desc.heartbeatTimeout))) ∧
          ((s.port x).state ≠ .live → (t.port (otherPort x)).notice &&& noticePeer = noticePeer)) ∧
        ((s.port x).heartbeatSeen = false →
          (t.port x).state = (s.port x).state ∧ (t.port x).silenceEnd = (s.port x).silenceEnd)

/-- A sample during LOADING only drives the switch fields out (R184). At the end of LOADING after a power-on reset each bay in use is
ARRIVING or ABSENT by its presence level with its switch off (R186), and after a pin reset each is reconciled by the table of
R187; a bay not in use is DISABLED (R3). That the sample of that moment drives out the switch fields held before it is the
model's own (notes/assumptions/39.md). -/
def Obligations.EndOfLoadingFindsTheBays : Prop :=
  (∀ (f : ScanFrame) (s : State), s.phase = .loading →
    exec (.bayScanSample f) s =
      .next { s with
        bc := { s.bc with enables := Vector.ofFn fun c => (s.bay c).switch, chain := { clk := false, load := false } } }) ∧
  ∀ (image : List Byte) (f : ScanFrame) (closed : BitVec 4) (good : BitVec 2) (s : State), s.phase = .loading →
    ∃ t, exec (.endOfLoading image f closed good) s = .next t ∧ t.bc.chain = { clk := false, load := false } ∧
      ∀ b : BayNo,
        t.bc.enables[b] = (s.bay b).switch ∧
        (t.dl.desc.inUse b = false → (t.bay b).state = .disabled ∧ (t.bay b).switch = false) ∧
        (t.dl.desc.inUse b = true → s.dl.resetKind = .powerOn →
          (t.bay b).state = (if f.presence.getLsbD b.val then .arriving else .absent) ∧ (t.bay b).switch = false) ∧
        (t.dl.desc.inUse b = true → s.dl.resetKind = .pin → f.presence.getLsbD b.val = true →
          f.feedback.getLsbD b.val = true →
          (t.bay b).state = .seated .active ∧ (t.bay b).switch = true ∧
          (t.bay b).admittedSurge = (t.profile (t.bayDesc b).profile).surge ∧
          (t.bay b).admittedSurgeTime = (t.profile (t.bayDesc b).profile).surgeTime ∧
          (t.bay b).admittedRunning = (t.profile (t.bayDesc b).profile).running ∧
          t.charge b = (t.profile (t.bayDesc b).profile).running ∧ (t.bay b).activeSince = some s.uptime ∧
          (t.bay b).switchOn = .reconciled s.uptime) ∧
        (t.dl.desc.inUse b = true → s.dl.resetKind = .pin → f.presence.getLsbD b.val = true →
          f.feedback.getLsbD b.val = false → (t.bay b).state = .seated .idle ∧ (t.bay b).switch = false) ∧
        (t.dl.desc.inUse b = true → s.dl.resetKind = .pin → f.presence.getLsbD b.val = false →
          (t.bay b).state = .absent ∧ (t.bay b).switch = false)

/-- A read of an image that stops answering returns 0xFF. The first check that fails, of the five of R178 and then of the structural one
of R180, rejects the image with its reason, and the defaults of R182 stand. An image that none rejects is VALID, or VALID_CLAMPED
when a field of a given section lies outside its range (R181). That bays of one drawer byte of 4 to 254 name no drawer, and that
the address and zone of an unfitted sensor are 0x08 and 0, are the model's own (notes/assumptions/43.md and 2.md); which fields
count as clamped is an inference (notes/assumptions/22.md). -/
def Obligations.ImagesAreJudgedByTheirBytes : Prop :=
  (∀ (image : List Byte) (g : Nat → Nat), (∀ k : Nat, g k = (image.getD k 0xFF).toNat) →
    (∀ r : DescReason, checkFails g r → (∀ q : DescReason, q.code < r.code → ¬ checkFails g q) →
      loadImage image = { desc := defaultDescription, status := .defaulted, reason := r }) ∧
    ((∀ r : DescReason, ¬ checkFails g r) →
      (loadImage image).reason = .none ∧ (fieldOut g → (loadImage image).status = .validClamped) ∧
      (¬ fieldOut g → (loadImage image).status = .valid))) ∧
  defaultDescription =
    { bayCount := 96
      serial := Vector.replicate 16 0
      bays := Vector.ofFn fun b =>
        { fitted := true, drawer := some (Fin.ofNat 4 (b.val / 24)), rail := Fin.ofNat 4 (b.val / 24)
          zone := Fin.ofNat 4 (b.val / 24), policy := .hold, priority := 1, profile := 0, retryLimit := 2, coolOff := 10
          altPhase := false }
      profiles := Vector.replicate 8 { surge := 250, surgeTime := 80, running := 80 }
      rails := Vector.replicate 4
        { dualCeiling := 2400, singleCeiling := 1200, base := 100, stagger := 20, level := 5, holdOff := 2 }
      fans := Vector.ofFn fun f =>
        { fitted := true, zone := Fin.ofNat 4 (f.val / 3), rail := Fin.ofNat 4 (f.val / 3), idle := 20, full := 300, pulses := 2
          minRpm := 1000 }
      zones := Vector.replicate 4
        { curve := [{ temp := 60, duty := 64 }, { temp := 80, duty := 128 }, { temp := 100, duty := 255 }], drawerFloor := 160
          bump := 32, upStep := 255, downStep := 8, minDuty := 64, driveOffset := 10, warn := 100, critical := 116 }
      sensors := Vector.replicate 16 { fitted := false, address := 0x08, zone := 0 }
      patterns := State.reset.ie.patterns
      normalMap := #v[0, 0, 7, 6, 3, 7, 1, 8, 2, 2]
      serviceMap := #v[0, 8, 7, 6, 6, 7, 1, 8, 2, 2]
      locatePattern := 5
      faultPattern := 4
      presenceDebounce := 250
      drawerSettle := 2
      heartbeatTimeout := 10
      staleTime := 60
      failsafeDuty := 255
      inrushBlank := 20
      blankingTime := 500 }

/-- The description put in force holds the header's bay count and the fields of every given section of an image that no check rejects,
from their byte places and within their ranges, and the defaults where a section is not given (R179, R181). Whatever the image,
every value lies within its range, and no drawer names more than 24 bays in use (R180 to R182). That bays of one drawer byte of 4
to 254 name no drawer in the structural check, and that the drive offset is an unsigned byte, are the model's own
(notes/assumptions/43.md and 23.md). -/
def Obligations.LoadedDescriptionHoldsTheImagesFields : Prop :=
  ∀ (image : List Byte) (d : Description), d = (loadImage image).desc →
    1 ≤ d.bayCount ∧ d.bayCount ≤ 96 ∧
    (∀ b : BayNo, d.bays[b].retryLimit ≤ 7 ∧ 1 ≤ d.bays[b].coolOff ∧ d.bays[b].coolOff ≤ 60) ∧
    (∀ w : DrawerNo,
      ((List.finRange 96).filter fun b =>
        decide (b.val < d.bayCount) && d.bays[b].fitted && decide (d.bays[b].drawer = some w)).length ≤ 24) ∧
    (∀ p : ProfileNo, 1 ≤ d.profiles[p].surgeTime ∧ d.profiles[p].surgeTime ≤ 600 ∧ d.profiles[p].surge ≤ 65535 ∧
      d.profiles[p].running ≤ d.profiles[p].surge) ∧
    (∀ r : RailNo, d.rails[r].dualCeiling ≤ 65535 ∧ d.rails[r].singleCeiling ≤ d.rails[r].dualCeiling ∧
      d.rails[r].base ≤ 65535 ∧ d.rails[r].stagger ≤ 255 ∧ d.rails[r].holdOff ≤ 30) ∧
    (∀ f : FanNo, d.fans[f].idle ≤ d.fans[f].full ∧ d.fans[f].full ≤ 3000 ∧ 1 ≤ d.fans[f].pulses ∧ d.fans[f].pulses ≤ 4 ∧
      d.fans[f].minRpm ≤ 65535) ∧
    (∀ z : ZoneNo, validCurve d.zones[z].curve = true ∧ (∀ p ∈ d.zones[z].curve, p.duty ≤ 255) ∧
      d.zones[z].drawerFloor ≤ 255 ∧ d.zones[z].bump ≤ 128 ∧
      1 ≤ d.zones[z].upStep ∧ d.zones[z].upStep ≤ 255 ∧ 1 ≤ d.zones[z].downStep ∧ d.zones[z].downStep ≤ 255 ∧
      d.zones[z].minDuty ≤ 255 ∧ 0 ≤ d.zones[z].driveOffset ∧ d.zones[z].driveOffset ≤ 80 ∧ -80 ≤ d.zones[z].warn ∧
      d.zones[z].warn ≤ 300 ∧ -80 ≤ d.zones[z].critical ∧ d.zones[z].critical ≤ 300) ∧
    (∀ n : SensorNo, 0x08 ≤ d.sensors[n].address ∧ d.sensors[n].address ≤ 0x77) ∧
    (∀ n : PatternNo, d.patterns[n].lengthAdd ≤ 16 ∧ 1 ≤ d.patterns[n].stepCode ∧ d.patterns[n].stepCode ≤ 20) ∧
    50 ≤ d.presenceDebounce ∧ d.presenceDebounce ≤ 2000 ∧ d.drawerSettle ≤ 10 ∧ d.heartbeatTimeout ≤ 255 ∧
    5 ≤ d.staleTime ∧ d.staleTime ≤ 300 ∧ d.failsafeDuty ≤ 255 ∧ d.inrushBlank ≤ 255 ∧ 100 ≤ d.blankingTime ∧
    d.blankingTime ≤ 5000 ∧
    ∀ g : Nat → Nat, (∀ k : Nat, g k = (image.getD k 0xFF).toNat) → (∀ r : DescReason, ¬ checkFails g r) →
      describes g defaultDescription d

/-! ### Presence, insertion and removal -/

/-- A sample that agrees with the bays' states, with fault flags only in bays that are not powered or whose inrush blank runs, changes
nothing but the enables, which become the switches held, and leaves the clock and the strobe of the chains low (R4, R7, R54,
R55). Presence takes an ABSENT bay to ARRIVING, and its loss
an ARRIVING bay back to ABSENT with PRESENCE_GLITCH (R8) and a bay with a drive to LEAVING with its state saved, where a QUEUED
bay keeps its entry and only its rail is examined (R10, R40). Presence returns a LEAVING bay to its saved state with
PRESENCE_GLITCH; back in ACTIVE its lingering order finishes SPUN_UP, and back in QUEUED its rail is examined (R11, R14, R40).
That a sample drives out the switches held before its inputs, also those of bays that it admits itself, is an inference
(notes/assumptions/33.md). -/
def Obligations.SamplesFollowPresence : Prop :=
  (∀ (f : ScanFrame) (s : State), s.phase = .running → (∀ b : BayNo, settled s f b) →
     (∀ b : BayNo, f.fault.getLsbD b.val = true → faultDisregarded s b) →
     exec (.bayScanSample f) s =
       .next { s with
         bc := { s.bc with enables := Vector.ofFn fun c => (s.bay c).switch, chain := { clk := false, load := false } } }) ∧
  (∀ (f : ScanFrame) (b : BayNo) (s : State), s.phase = .running → (∀ c : BayNo, c ≠ b → settled s f c) → f.fault = 0 →
     ((s.bay b).state = .absent → f.presence.getLsbD b.val = true →
       ∃ t, exec (.bayScanSample f) s = .next t ∧
         t.bay b = { s.bay b with state := .arriving, debounce := some s.uptime, changed := s.uptime } ∧
         (∀ c : BayNo, c ≠ b → t.bay c = s.bay c) ∧ (∀ c : BayNo, t.bc.enables[c] = (s.bay c).switch) ∧
         t = { s with
           bc := { s.bc with bays := t.bc.bays, enables := t.bc.enables, chain := ChainLines.low }
           xm := t.xm, pa := t.pa, pb := t.pb } ∧
         portsNotified s t ∧ untouched s t [bayRegion b]) ∧
     ((s.bay b).state = .arriving → f.presence.getLsbD b.val = false →
       ∃ t, exec (.bayScanSample f) s = .next t ∧
         t.bay b = { s.bay b with state := .absent, debounce := none, changed := s.uptime } ∧
         (∀ c : BayNo, c ≠ b → t.bay c = s.bay c) ∧ (∀ c : BayNo, t.bc.enables[c] = (s.bay c).switch) ∧
         eventsLogged s t [eventGlitch b .absent] ∧
         t = { s with
           bc := { s.bc with bays := t.bc.bays, enables := t.bc.enables, chain := ChainLines.low }
           ew := t.ew, xm := t.xm, pa := t.pa, pb := t.pb } ∧
         portsNotified s t ∧ untouched s t [bayRegion b, eventRegion s.ew.latest, eventHeaderRegion]) ∧
     (∀ h : Seated, (s.bay b).state = .seated h → h ≠ .queued → f.presence.getLsbD b.val = false →
       ∃ t, exec (.bayScanSample f) s = .next t ∧
         t.bay b = { s.bay b with state := .leaving h, debounce := some s.uptime, changed := s.uptime } ∧
         (∀ c : BayNo, c ≠ b → t.bay c = s.bay c) ∧ (∀ c : BayNo, t.bc.enables[c] = (s.bay c).switch) ∧
         t = { s with
           bc := { s.bc with bays := t.bc.bays, enables := t.bc.enables, chain := ChainLines.low }
           xm := t.xm, pa := t.pa, pb := t.pb } ∧
         portsNotified s t ∧ untouched s t [bayRegion b]) ∧
     ((s.bay b).state = .seated .queued → f.presence.getLsbD b.val = false →
       ∃ t, exec (.bayScanSample f) s = .next t ∧
         t.bay b = { s.bay b with state := .leaving .queued, debounce := some s.uptime, changed := s.uptime } ∧
         t.charge b = s.charge b ∧
         (t.ps.queue.filter fun e => decide (e.bay = b)) = (s.ps.queue.filter fun e => decide (e.bay = b)) ∧
         (∀ c : BayNo, c ≠ b → leftOrAdmitted s t c) ∧ examined t (railOf s b) ∧
         (∀ c : BayNo, t.bc.enables[c] = (s.bay c).switch) ∧
         onlyBaysAndRail (railOf s b) { s with bc := { s.bc with enables := t.bc.enables, chain := ChainLines.low } } t ∧
         untouched s t (examinationRegions (railOf s b)))) ∧
  ∀ (f : ScanFrame) (b : BayNo) (h : Seated) (s : State), s.phase = .running → (s.bay b).state = .leaving h →
    f.presence.getLsbD b.val = true → (∀ c : BayNo, c ≠ b → settled s f c) → f.fault = 0 →
    ∃ t, exec (.bayScanSample f) s = .next t ∧
      (h ≠ .queued →
        t.bay b =
          { s.bay b with
            state := .seated h, debounce := none, link := if h = .active then none else (s.bay b).link,
            changed := s.uptime } ∧
        (∀ c : BayNo, c ≠ b → t.bay c = s.bay c) ∧ eventsLogged s t [eventGlitch b (.seated h)] ∧ t.ps = s.ps ∧
        (h ≠ .active → t.oi = s.oi) ∧
        (h = .active → ∀ (x : Port) (n : SlotNo), (s.bay b).link = some (x, n) → (lingeringOf s x n).isSome →
          slotFinished t x n { result := .spunUp, data := [6, byteOf (queuePlace s b)] })) ∧
      (h = .queued →
        (t.bay b).debounce = none ∧ t.oi = s.oi ∧ examined t (railOf s b) ∧
        ((t.bay b = { s.bay b with state := .seated .queued, debounce := none, changed := s.uptime } ∧
            t.charge b = s.charge b ∧
            (t.ps.queue.filter fun e => decide (e.bay = b)) = (s.ps.queue.filter fun e => decide (e.bay = b))) ∨
          ((t.bay b).state = .seated .spinup ∧ (t.bay b).switch = true ∧ ∀ e ∈ t.ps.queue, e.bay ≠ b))) ∧
      (∀ c : BayNo, c ≠ b → leftOrAdmitted s t c) ∧ (∀ c : BayNo, t.bc.enables[c] = (s.bay c).switch) ∧
      onlyBaysAndRail (railOf s b) { s with bc := { s.bc with enables := t.bc.enables, chain := ChainLines.low } } t ∧
      untouched s t (examinationRegions (railOf s b) ++ linkRegions (s.bay b))

/-- A fault flag in a bay in SPINUP or ACTIVE whose inrush blank has ended turns its switch off, removes its charge, raises its retry
count and takes it to COOLOFF within the retry limit or to LOCKED past it, where its lingering order finishes ABORTED_FAULT
(R54, R56 to R58). In a LEAVING bay with saved SPINUP or ACTIVE it turns the switch off, removes the charge and leaves the bay
LEAVING with saved IDLE, its retry count, link and debounce as they were (R60). The order of the two events of each is that of the
rules; those of the rail stand where notes/assumptions/13.md puts them. That the sample drives out the switches held before its
fault, also those of bays that it admits itself, is an inference (notes/assumptions/33.md). After a fall of the
charge the rail stands examined (R40). -/
def Obligations.FaultFlagsTurnPoweredBaysOff : Prop :=
  (∀ (f : ScanFrame) (b : BayNo) (h : Seated) (s : State), s.phase = .running → (s.bay b).state = .seated h →
     (h = .spinup ∨ h = .active) → blankEnded s b = true → (∀ c : BayNo, settled s f c) →
     (∀ c : BayNo, f.fault.getLsbD c.val = decide (c = b)) →
     ∃ t, exec (.bayScanSample f) s = .next t ∧
       ((s.bay b).retries + 1 ≤ (s.bayDesc b).retryLimit →
         t.bay b =
           { s.bay b with
             state := .seated .cooloff, switch := false, retries := (s.bay b).retries + 1, surgeEnd := none,
             activeSince := none, coolOffEnd := some (uptimeAfter s.uptime (1000 * (s.bayDesc b).coolOff)),
             changed := s.uptime }) ∧
       ((s.bayDesc b).retryLimit < (s.bay b).retries + 1 →
         t.bay b =
           { s.bay b with
             state := .seated .locked, switch := false, retries := (s.bay b).retries + 1, surgeEnd := none,
             activeSince := none, link := none, changed := s.uptime } ∧
         ∀ (x : Port) (n : SlotNo), (s.bay b).link = some (x, n) → (lingeringOf s x n).isSome →
           slotFinished t x n { result := .abortedFault, data := [9, byteOf (queuePlace s b)] }) ∧
       (s.ps.queue = [] → (s.rail (railOf s b)).overLimit = false →
         committed s (railOf s b) ≤ (s.rail (railOf s b)).admitLimit →
         eventsLogged s t
           [eventPoweredOff b .fault h (s.charge b),
             if (s.bay b).retries + 1 ≤ (s.bayDesc b).retryLimit then
               eventBayFault b ((s.bay b).retries + 1) (s.bayDesc b).retryLimit h false
             else eventBayLocked b ((s.bay b).retries + 1) (s.bayDesc b).retryLimit]) ∧
       t.charge b = 0 ∧ (0 < s.charge b → examined t (railOf s b)) ∧ (∀ c : BayNo, c ≠ b → leftOrAdmitted s t c) ∧
       (∀ c : BayNo, t.bc.enables[c] = (s.bay c).switch) ∧
       onlyBaysAndRail (railOf s b) { s with bc := { s.bc with enables := t.bc.enables, chain := ChainLines.low } } t ∧
       untouched s t
         (examinationRegions (railOf s b) ++ linkRegions (s.bay b))) ∧
  ∀ (f : ScanFrame) (b : BayNo) (h : Seated) (s : State), s.phase = .running → (s.bay b).state = .leaving h →
    (h = .spinup ∨ h = .active) → blankEnded s b = true → (∀ c : BayNo, settled s f c) →
    (∀ c : BayNo, f.fault.getLsbD c.val = decide (c = b)) →
    ∃ t, exec (.bayScanSample f) s = .next t ∧
      t.bay b = { s.bay b with state := .leaving .idle, switch := false, surgeEnd := none, activeSince := none } ∧
      (s.ps.queue = [] → (s.rail (railOf s b)).overLimit = false →
        committed s (railOf s b) ≤ (s.rail (railOf s b)).admitLimit →
        eventsLogged s t
          [eventPoweredOff b .fault h (s.charge b),
            eventBayFault b (s.bay b).retries (s.bayDesc b).retryLimit h true]) ∧
      t.charge b = 0 ∧ (0 < s.charge b → examined t (railOf s b)) ∧ t.oi = s.oi ∧ (∀ c : BayNo, c ≠ b → leftOrAdmitted s t c) ∧
      (∀ c : BayNo, t.bc.enables[c] = (s.bay c).switch) ∧
      onlyBaysAndRail (railOf s b) { s with bc := { s.bc with enables := t.bc.enables, chain := ChainLines.low } } t ∧
      untouched s t (examinationRegions (railOf s b))

/-- The end of a bay's arrival debounce: under HOLD the bay is IDLE, with INSERTED and nothing else; under AUTO INSERTED is the first
event, and the bay is QUEUED at its default priority, or already admitted, its rail examined (R9, R35, R40, R42). That INSERTED carries 0xFF for a bay
with no drawer is the model's own (notes/assumptions/37.md). -/
def Obligations.InsertionFollowsThePolicy : Prop :=
  (∀ (b : BayNo) (s : State), s.phase = .running → (s.bay b).state = .arriving → debounceOver s b = true →
     (s.bay b).policy = .hold →
     ∃ t, exec (.inserted b) s = .next t ∧
       t.bay b = { s.bay b with state := .seated .idle, debounce := none, changed := s.uptime } ∧
       (∀ c : BayNo, c ≠ b → t.bay c = s.bay c) ∧
       eventLogged s t (eventInserted b .hold (s.bayDesc b).drawer) ∧
       t = { s with bc := { s.bc with bays := t.bc.bays }, ew := t.ew, xm := t.xm, pa := t.pa, pb := t.pb } ∧
       portsNotified s t ∧ untouched s t [bayRegion b, eventRegion s.ew.latest, eventHeaderRegion]) ∧
  ∀ (b : BayNo) (s : State), s.phase = .running → (s.bay b).state = .arriving → debounceOver s b = true →
    (s.bay b).policy = .auto →
    ∃ t, exec (.inserted b) s = .next t ∧
      (t.bay b).priority = (s.bayDesc b).priority ∧ (t.bay b).debounce = none ∧
      Memory.readRun t.xm (eventListBase + 16 * eventIndex (nextSequence s.ew.latest)) 16 =
        eventEntry (nextSequence s.ew.latest) s.uptime (eventInserted b .auto (s.bayDesc b).drawer) ∧
      (((t.bay b).state = .seated .queued ∧ { bay := b, priority := (s.bayDesc b).priority } ∈ t.ps.queue) ∨
        ((t.bay b).state = .seated .spinup ∧ (t.bay b).switch = true ∧ ∀ e ∈ t.ps.queue, e.bay ≠ b)) ∧
      examined t (railOf s b) ∧ (∀ c : BayNo, c ≠ b → leftOrAdmitted s t c) ∧ onlyBaysAndRail (railOf s b) s t ∧
      untouched s t (examinationRegions (railOf s b))

/-- The end of a LEAVING bay's absence debounce: a powered bay is turned off, the timers stop, the count and the priority return, a
lingering order finishes ABORTED_REMOVED, and the bay is ABSENT (R12), its rail examined after a leave or a fall of the charge (R40).
A sample at or after a bay's debounce end that still shows
the new level does what the end of that debounce does, after it has driven out the enables held (R7, R9, R12; the order is an
inference, notes/assumptions/33.md). -/
def Obligations.RemovalsAndDebounceEndsOfSamples : Prop :=
  (∀ (b : BayNo) (h : Seated) (s : State), s.phase = .running → (s.bay b).state = .leaving h → debounceOver s b = true →
     ∃ t, exec (.removalConfirmed b) s = .next t ∧
       t.bay b =
         { s.bay b with
           state := .absent, switch := if h.powered then false else (s.bay b).switch, retries := 0,
           priority := (s.bayDesc b).priority, debounce := none, surgeEnd := none, coolOffEnd := none,
           activeSince := none, link := none, changed := s.uptime } ∧
       t.charge b = (if h.powered then 0 else s.charge b) ∧
       (h = .queued → ∀ e ∈ t.ps.queue, e.bay ≠ b) ∧
       (∀ (x : Port) (n : SlotNo), (s.bay b).link = some (x, n) → (lingeringOf s x n).isSome →
         (t.port x).notice.getLsbD n.val = true ∧ slotState t x n = slotDone ∧
         Memory.read t.xm (slotBase x n + 24) = byteOf Result.abortedRemoved.code) ∧
       ((h = .queued ∨ (h.powered = true ∧ 0 < s.charge b)) → examined t (railOf s b)) ∧
       (∀ c : BayNo, c ≠ b → leftOrAdmitted s t c) ∧ onlyBaysAndRail (railOf s b) s t ∧
       untouched s t
         (examinationRegions (railOf s b) ++ linkRegions (s.bay b))) ∧
  ∀ (f : ScanFrame) (b : BayNo) (s : State), s.phase = .running → debounceOver s b = true →
    (∀ c : BayNo, c ≠ b → settled s f c) → f.fault = 0 →
    ((s.bay b).state = .arriving → f.presence.getLsbD b.val = true →
      exec (.bayScanSample f) s =
        exec (.inserted b)
          { s with bc := { s.bc with enables := Vector.ofFn fun c => (s.bay c).switch, chain := ChainLines.low } }) ∧
    ∀ h : Seated, (s.bay b).state = .leaving h → f.presence.getLsbD b.val = false →
      exec (.bayScanSample f) s =
        exec (.removalConfirmed b)
          { s with bc := { s.bc with enables := Vector.ofFn fun c => (s.bay c).switch, chain := ChainLines.low } }

/-! ### A bay's timers -/

/-- The end of a bay's surge: ACTIVE, or saved state ACTIVE, with its running charge and active-since started, and its rail examined when
the charge fell; a seated bay's lingering order finishes SPUN_UP, a LEAVING bay's stays (R13, R40, R44). The end of its cool-off:
the bay rejoins the queue at the priority its field holds, its rail is examined, and it may be admitted at once; a LEAVING bay
takes its place but is not admitted (R13, R40, R59). Sixty seconds
after active-since its retry count is 0, and nothing else changes but its record (R61). -/
def Obligations.BayTimersEndSurgeCoolOffAndCount : Prop :=
  (∀ (b : BayNo) (s : State), s.phase = .running → (s.bay b).state.held = some .spinup →
     timerDue s.uptime (s.bay b).surgeEnd = true →
     ∃ t, exec (.surgeEnd b) s = .next t ∧
       ((s.bay b).state = .seated .spinup →
         t.bay b =
           { s.bay b with
             state := .seated .active, surgeEnd := none, activeSince := some s.uptime, link := none, changed := s.uptime } ∧
         ∀ (x : Port) (n : SlotNo), (s.bay b).link = some (x, n) → (lingeringOf s x n).isSome →
           slotFinished t x n { result := .spunUp, data := [6, byteOf (queuePlace s b)] }) ∧
       ((s.bay b).state = .leaving .spinup →
         t.bay b = { s.bay b with state := .leaving .active, surgeEnd := none, activeSince := some s.uptime } ∧
         t.oi = s.oi) ∧
       t.charge b = (s.bay b).admittedRunning ∧
       ((s.bay b).admittedRunning < s.charge b → examined t (railOf s b)) ∧ (∀ c : BayNo, c ≠ b → leftOrAdmitted s t c) ∧ onlyBaysAndRail (railOf s b) s t ∧
       untouched s t
         (examinationRegions (railOf s b) ++ linkRegions (s.bay b))) ∧
  (∀ (b : BayNo) (s : State), s.phase = .running → (s.bay b).state.held = some .cooloff →
     timerDue s.uptime (s.bay b).coolOffEnd = true →
     ∃ t, exec (.coolOffEnd b) s = .next t ∧
       (((t.bay b).state = (s.bay b).state.withHeld .queued ∧ (t.bay b).coolOffEnd = none ∧
           (t.bay b).switch = (s.bay b).switch ∧ { bay := b, priority := (s.bay b).priority } ∈ t.ps.queue) ∨
         ((s.bay b).state = .seated .cooloff ∧ (t.bay b).state = .seated .spinup ∧ (t.bay b).switch = true ∧
           (t.bay b).surgeEnd = some (uptimeAfter s.uptime (100 * (profileOf s b).surgeTime)) ∧
           t.charge b = (profileOf s b).surge ∧ ∀ e ∈ t.ps.queue, e.bay ≠ b)) ∧
       (t.bay b).retries = (s.bay b).retries ∧ examined t (railOf s b) ∧ (∀ c : BayNo, c ≠ b → leftOrAdmitted s t c) ∧ onlyBaysAndRail (railOf s b) s t ∧
       untouched s t (examinationRegions (railOf s b))) ∧
  ∀ (b : BayNo) (s : State), s.phase = .running → (s.bay b).state.held = some .active →
    timerDue s.uptime ((s.bay b).activeSince.map fun u => u + 60000) = true →
    ∃ t, exec (.retryClearance b) s = .next t ∧ t.bay b = { s.bay b with retries := 0 } ∧
      (∀ c : BayNo, c ≠ b → t.bay c = s.bay c) ∧
      t = { s with bc := { s.bc with bays := t.bc.bays }, xm := t.xm, pa := t.pa, pb := t.pb } ∧
      portsNotified s t ∧ untouched s t [bayRegion b]

/-! ### Drawers -/

/-- A sample of the drawer lines, or of the supply-good lines, at which no debounce ends: a line that differs from its debounced level
starts its debounce or lets it run, one that agrees stops it, and nothing else changes (R22, R28). -/
def Obligations.LineSamplesStartAndStopDebounces : Prop :=
  (∀ (closed : BitVec 4) (s : State), s.phase = .running →
     (∀ d : DrawerNo, closed.getLsbD d.val ≠ (s.drawer d).line.level →
       timerDue s.uptime ((s.drawer d).line.debounce.map fun u => u + 50) = false) →
     ∃ t, exec (.drawerLineSample closed) s = .next t ∧ t = { s with bc := { s.bc with drawers := t.bc.drawers } } ∧
       ∀ d : DrawerNo,
         t.drawer d =
           { s.drawer d with
             line :=
               { level := (s.drawer d).line.level
                 debounce :=
                   if closed.getLsbD d.val = (s.drawer d).line.level then none
                   else some ((s.drawer d).line.debounce.getD s.uptime) } }) ∧
  ∀ (good : BitVec 2) (s : State), s.phase ≠ .inReset →
    (∀ n : SupplyNo, good.getLsbD n.val ≠ s.ps.lines[n].level →
      timerDue s.uptime (s.ps.lines[n].debounce.map fun u => u + 10) = false) →
    ∃ t, exec (.supplyLineSample good) s = .next t ∧ t = { s with ps := { s.ps with lines := t.ps.lines } } ∧
      ∀ n : SupplyNo,
        t.ps.lines[n] =
          { level := s.ps.lines[n].level
            debounce :=
              if good.getLsbD n.val = s.ps.lines[n].level then none
              else some (s.ps.lines[n].debounce.getD s.uptime) }

/-- The end of a drawer line's debounce: the level changes and the drawer follows the table of R23, with DRAWER_OPENED when it leaves
CLOSED. The end of a SETTLING drawer's settle timer: CLOSED, and DRAWER_CLOSED. When a drawer leaves or reaches CLOSED the rails with
queued bays of it stand examined, and only queued bays may be admitted (R22 to R24, R40). -/
def Obligations.DrawersFollowLinesAndSettleTimers : Prop :=
  (∀ (d : DrawerNo) (s : State), s.phase = .running →
     timerDue s.uptime ((s.drawer d).line.debounce.map fun u => u + 50) = true →
     ∃ t, exec (.drawerDebounceEnd d) s = .next t ∧
       (t.drawer d).line = { level := !(s.drawer d).line.level, debounce := none } ∧
       ((s.drawer d).state = .closed → (s.drawer d).line.level = true →
         (t.drawer d).state = .opened ∧ (t.drawer d).settleEnd = none ∧
         ((∀ e ∈ s.ps.queue, inDrawer s d e.bay = false) → eventLogged s t (eventDrawerOpened d .closed))) ∧
       ((s.drawer d).state = .opened → (s.drawer d).line.level = false → 0 < s.dl.desc.drawerSettle →
         (t.drawer d).state = .settling ∧
         (t.drawer d).settleEnd = some (uptimeAfter s.uptime (1000 * s.dl.desc.drawerSettle)) ∧ t.ew = s.ew) ∧
       ((s.drawer d).state = .opened → (s.drawer d).line.level = false → s.dl.desc.drawerSettle = 0 →
         (t.drawer d).state = .closed ∧ (t.drawer d).settleEnd = none) ∧
       ((s.drawer d).state = .settling → (s.drawer d).line.level = true →
         (t.drawer d).state = .opened ∧ (t.drawer d).settleEnd = none ∧ t.ew = s.ew) ∧
       (∀ c : DrawerNo, c ≠ d → t.drawer c = s.drawer c) ∧ (∀ b : BayNo, leftOrAdmitted s t b) ∧
       (((s.drawer d).state = .closed ↔ (t.drawer d).state ≠ .closed) →
         ∀ e ∈ s.ps.queue, inDrawer s d e.bay = true → examined t (railOf s e.bay)) ∧
       onlyBaysAndPower { s with bc := { s.bc with drawers := t.bc.drawers } } t ∧
       untouched s t ([drawerRegion d, bayArea, queueRegion, eventHeaderRegion, eventArea] ++ railRegions)) ∧
  ∀ (d : DrawerNo) (s : State), s.phase = .running → (s.drawer d).state = .settling →
    timerDue s.uptime (s.drawer d).settleEnd = true →
    ∃ t, exec (.settleTimerEnd d) s = .next t ∧
      t.drawer d = { s.drawer d with state := .closed, settleEnd := none, changed := s.uptime } ∧
      (∀ c : DrawerNo, c ≠ d → t.drawer c = s.drawer c) ∧ (∀ b : BayNo, leftOrAdmitted s t b) ∧
      (∀ e ∈ s.ps.queue, inDrawer s d e.bay = true → examined t (railOf s e.bay)) ∧
      ((∀ e ∈ s.ps.queue, inDrawer s d e.bay = false) → eventLogged s t (eventDrawerClosed d)) ∧
      onlyBaysAndPower { s with bc := { s.bc with drawers := t.bc.drawers } } t ∧
      untouched s t ([drawerRegion d, bayArea, queueRegion, eventHeaderRegion, eventArea] ++ railRegions)

/-! ### The power sequencer -/

/-- An insertion into a queue whose priorities do not rise puts the entry behind every entry of its priority or a higher one and ahead
of every lower one (R35). The end of a rail's stagger wait: STAGGER clears and the rail is examined. A candidate that does not fit
blocks it, and one that a pause holds back, or none, leaves BLOCKED clear and nothing else changed but the rail record; a candidate
that fits with nothing pausing the rail is admitted, alone when the stagger time is above 0 (R39, R41 to R43). -/
def Obligations.JoinsTakePlacesAndStaggerEndsExamine : Prop :=
  (∀ (e : QueueEntry) (q : List QueueEntry), q.Pairwise (fun x y => y.priority ≤ x.priority) →
     insertEntry e q =
       (q.filter fun x => decide (e.priority ≤ x.priority)) ++ e :: q.filter fun x => decide (x.priority < e.priority)) ∧
  (∀ (r : RailNo) (s : State), s.phase = .running → (s.rail r).stagger = true →
     timerDue s.uptime (staggerEndAt s r) = true →
     (candidate s r = none ∨
       ∃ e, candidate s r = some e ∧
         (committed s r + (profileOf s e.bay).surge ≤ (s.rail r).admitLimit → (s.rail r).paused = true)) →
     ∃ t, exec (.staggerEnd r) s = .next t ∧
       t.rail r =
         { s.rail r with
           stagger := false
           blocked :=
             match candidate s r with
             | none => none
             | some e =>
               if committed s r + (profileOf s e.bay).surge ≤ (s.rail r).admitLimit then none else some e.bay } ∧
       (∀ q : RailNo, q ≠ r → t.rail q = s.rail q) ∧
       t = { s with ps := { s.ps with rails := t.ps.rails }, xm := t.xm, pa := t.pa, pb := t.pb } ∧
       portsNotified s t ∧ untouched s t [railRegion r]) ∧
  ∀ (r : RailNo) (e : QueueEntry) (s : State), s.phase = .running → (s.rail r).stagger = true →
    timerDue s.uptime (staggerEndAt s r) = true → candidate s r = some e → (s.rail r).paused = false →
    committed s r + (profileOf s e.bay).surge ≤ (s.rail r).admitLimit →
    ∃ t, exec (.staggerEnd r) s = .next t ∧
      t.bay e.bay =
        { s.bay e.bay with
          state := .seated .spinup, switch := true, admittedSurge := (profileOf s e.bay).surge,
          admittedSurgeTime := (profileOf s e.bay).surgeTime, admittedRunning := (profileOf s e.bay).running,
          surgeEnd := some (uptimeAfter s.uptime (100 * (profileOf s e.bay).surgeTime)),
          switchOn := .admitted s.uptime, changed := s.uptime } ∧
      (∀ c : BayNo, c ≠ e.bay → leftOrAdmitted s t c) ∧ t.charge e.bay = (profileOf s e.bay).surge ∧
      (∀ x ∈ t.ps.queue, x.bay ≠ e.bay) ∧ (t.rail r).lastAdmission = some s.uptime ∧
      (t.rail r).admitLimit = (s.rail r).admitLimit ∧ examined t r ∧
      (0 < (s.railDesc r).stagger →
        (∀ c : BayNo, c ≠ e.bay → t.bay c = s.bay c) ∧
        t.ps.queue = (s.ps.queue.filter fun x => decide (x.bay ≠ e.bay)) ∧ (t.rail r).stagger = true ∧
        (t.rail r).bayPart = (s.rail r).bayPart + (profileOf s e.bay).surge - s.charge e.bay ∧
        untouched s t [bayRegion e.bay, railRegion r, queueRegion, eventHeaderRegion, eventArea]) ∧
      ((s.railDesc r).stagger = 0 → (t.rail r).stagger = false) ∧
      onlyBaysAndRail r s t ∧ untouched s t (examinationRegions r)

/-- The end of a supply-good line's debounce changes its level, and outside LOADING the supply state and every rail's admit limit
follow, and a rail whose limit changed stands examined; powered bays keep their state, switch and charge (R28 to R30, R40). -/
def Obligations.SupplyChangeMovesTheAdmitLimits : Prop :=
  ∀ (n : SupplyNo) (s : State), timerDue s.uptime (s.ps.lines[n].debounce.map fun u => u + 10) = true →
    (s.phase = .loading → exec (.supplyDebounceEnd n) s =
      .next { s with
        ps := { s.ps with lines := s.ps.lines.set n { level := !s.ps.lines[n].level, debounce := none } } }) ∧
    (s.phase = .running → s.ps.supply = linesSupply s →
      ∃ t, exec (.supplyDebounceEnd n) s = .next t ∧
        t.ps.lines = s.ps.lines.set n { level := !s.ps.lines[n].level, debounce := none } ∧
        t.ps.supply = supplyOf t.ps.lines[0].level t.ps.lines[1].level ∧
        (∀ r : RailNo, (t.rail r).admitLimit =
            (match t.ps.supply with
              | .both => (s.rail r).dual
              | .single => (s.rail r).single
              | .none => 0) ∧
          ((t.rail r).admitLimit ≠ (s.rail r).admitLimit →
            (t.rail r).trip = (t.rail r).admitLimit * tripPercent (s.railDesc r).level / 100 ∧ examined t r)) ∧
        (∀ b : BayNo, leftOrAdmitted s t b) ∧
        onlyBaysAndPower { s with ps := { s.ps with lines := t.ps.lines, supply := t.ps.supply } } t ∧
        untouched s t ([liveRegion, bayArea, queueRegion, eventHeaderRegion, eventArea] ++ railRegions))

/-- A rising crossing pauses the rail with RAIL_OVERDRAW, or stops the hold-off of a rail that is paused (R49). A falling crossing
starts the hold-off of a paused rail, or ends the pause at once at a hold-off time of 0. The end of a hold-off ends the pause. At
either end the rail stands examined, and only queued bays may be admitted; with no eligible bay queued on the rail RAIL_OVERDRAW_END
is the one event of the end of a hold-off (R40, R50). The current that the commands carry and the rail stores, and that a rail not
paused only sees its current move, are the model's own (notes/assumptions/10.md). -/
def Obligations.CrossingsAndHoldOffsPauseARail : Prop :=
  ((∀ (r : RailNo) (current : Nat) (s : State), s.phase = .running → (s.rail r).sense ≤ (s.rail r).trip →
      (s.rail r).trip < current →
      ∃ t, exec (.risingCrossing r current) s = .next t ∧
        ((s.rail r).paused = false →
          t.rail r = { s.rail r with sense := current, paused := true } ∧
          eventLogged s t (eventOverdraw r (committed s r) (s.rail r).trip)) ∧
        ((s.rail r).paused = true → t.rail r = { s.rail r with sense := current, holdOffEnd := none } ∧ t.ew = s.ew) ∧
        (∀ q : RailNo, q ≠ r → t.rail q = s.rail q) ∧
        t = { s with ps := { s.ps with rails := t.ps.rails }, ew := t.ew, xm := t.xm, pa := t.pa, pb := t.pb } ∧
        portsNotified s t ∧ untouched s t [railRegion r, eventRegion s.ew.latest, eventHeaderRegion]) ∧
   ∀ (r : RailNo) (current : Nat) (s : State), s.phase = .running → (s.rail r).trip < (s.rail r).sense →
     current ≤ (s.rail r).trip →
     ((s.rail r).paused = false →
       exec (.fallingCrossing r current) s = .next (s.setRail r { s.rail r with sense := current })) ∧
     ((s.rail r).paused = true → 0 < (s.railDesc r).holdOff →
       ∃ t, exec (.fallingCrossing r current) s = .next t ∧
         t.rail r =
           { s.rail r with
             sense := current, holdOffEnd := some (uptimeAfter s.uptime (1000 * (s.railDesc r).holdOff)) } ∧
         (∀ q : RailNo, q ≠ r → t.rail q = s.rail q) ∧
         t = { s with ps := { s.ps with rails := t.ps.rails }, xm := t.xm, pa := t.pa, pb := t.pb } ∧
         portsNotified s t ∧ untouched s t [railRegion r]) ∧
     ((s.rail r).paused = true → (s.railDesc r).holdOff = 0 →
       ∃ t, exec (.fallingCrossing r current) s = .next t ∧ (t.rail r).paused = false ∧ (t.rail r).holdOffEnd = none ∧
         (t.rail r).sense = current ∧ examined t r ∧ (∀ b : BayNo, leftOrAdmitted s t b) ∧ onlyBaysAndRail r s t ∧
         untouched s t (examinationRegions r))) ∧
  ∀ (r : RailNo) (s : State), s.phase = .running → (s.rail r).paused = true →
    timerDue s.uptime (s.rail r).holdOffEnd = true →
    ∃ t, exec (.holdOffEnd r) s = .next t ∧ (t.rail r).paused = false ∧ (t.rail r).holdOffEnd = none ∧
      (t.rail r).admitLimit = (s.rail r).admitLimit ∧ (t.rail r).trip = (s.rail r).trip ∧
      (∀ b : BayNo, leftOrAdmitted s t b) ∧ examined t r ∧
      (candidate s r = none → eventLogged s t (eventOverdrawEnd r (committed s r)) ∧ t.bc = s.bc ∧
        t.ps.queue = s.ps.queue ∧ untouched s t [railRegion r, eventRegion s.ew.latest, eventHeaderRegion]) ∧
      onlyBaysAndRail r s t ∧ untouched s t (examinationRegions r)

/-- A command takes a bay from QUEUED to SPINUP only as R42 admits it: its drawer CLOSED or none, its zone not critical, its rail not
PAUSED and not in a stagger wait (but for the command that ends it), and its surge draw within the admit limit. The switch, the
charge, the admitted draws, the surge timer, the last admission time and STAGGER are then set (R38, R39, R41 to R43). One command
may make several changes after one another: a sample of all drawer lines or of both supply lines, the end of a round, or an order
command with earlier posts waiting. There a condition may fail again after the admission; the clauses say which. -/
def Obligations.AdmissionNeedsEveryCondition : Prop :=
  ∀ (c : Instr) (b : BayNo) (s t : State), exec c s = .next t →
    (s.bay b).state = .seated .queued → (t.bay b).state = .seated .spinup →
    (drawerHome s b = true ∨ drawerHome t b = true) ∧
    ((∀ closed : BitVec 4, c ≠ .drawerLineSample closed) → drawerHome t b = true) ∧
    ((s.sense (s.bayDesc b).zone).critical = false ∨ (t.sense (s.bayDesc b).zone).critical = false) ∧
    ((c ≠ .temperatureRoundStart ∧ c ≠ .sensorReadTimeout ∧ ∀ o : ReadOutcome, c ≠ .sensorReadComplete o) →
      (t.sense (s.bayDesc b).zone).critical = false) ∧
    ((s.rail (railOf s b)).stagger = false ∨ c = .staggerEnd (railOf s b)) ∧
    (t.bay b).switch = true ∧ t.charge b = (t.bay b).admittedSurge ∧
    (t.bay b).surgeEnd = some (uptimeAfter s.uptime (100 * (t.bay b).admittedSurgeTime)) ∧
    (t.bay b).switchOn = .admitted s.uptime ∧ (t.rail (railOf s b)).lastAdmission = some s.uptime ∧
    (0 < (s.railDesc (railOf s b)).stagger → (t.rail (railOf s b)).stagger = true) ∧
    ((c.isOrder = true → s.pa.post = 0 ∧ s.pb.post = 0) →
      (t.bay b).admittedSurge = (profileOf t b).surge ∧ (t.bay b).admittedSurgeTime = (profileOf t b).surgeTime ∧
      (t.bay b).admittedRunning = (profileOf t b).running ∧
      ((∃ n : SupplyNo, t.ps.lines[n].level = s.ps.lines[n].level) →
        (t.rail (railOf s b)).paused = false ∧ committed t (railOf s b) ≤ (t.rail (railOf s b)).admitLimit))

/-! ### Temperature -/

/-- The start of a round samples every report entry: the count seen, its last change, and the value while it is fresh and present. It forms
every drive temperature from the two fresh values and the bay's state, and begins the read of the lowest fitted sensor (R67, R72
to R75). -/
def Obligations.RoundStartSamplesAndBeginsToRead : Prop :=
  ∀ s : State, s.phase = .running → s.tu.reading = none → uptimeReached s.uptime s.tu.nextRound = true →
    ∃ t, exec .temperatureRoundStart s = .next t ∧
      (∀ (x : Port) (b : BayNo) (place : Nat) (count : Byte) (value : BitVec 16),
        place = (match x with | .a => 0x0700 + 4 * b.val | .b => 0x0880 + 4 * b.val) →
        value =
          BitVec.ofNat 16 ((Memory.read s.xm place).toNat + 256 * (Memory.read s.xm (place + 1)).toNat) →
        count = Memory.read s.xm (place + 2) →
        (t.report x b).lastCount = some count ∧
        (t.report x b).lastChange =
          (match (s.report x b).lastCount with
            | none => none
            | some old => if old = count then (s.report x b).lastChange else some s.uptime) ∧
        (((t.report x b).lastChange = none ∨ value = 0x8000) → (t.report x b).fresh = none) ∧
        ∀ u : Uptime, (t.report x b).lastChange = some u → value ≠ 0x8000 →
          (t.report x b).fresh =
            (if uptimeReached s.uptime (uptimeAfter u (1000 * s.dl.desc.staleTime)) = true then none
              else some (max (-80) (min 300 value.toInt)))) ∧
      (∀ b : BayNo, (t.bay b).driveTemp =
        (if (s.bay b).state = .disabled ∨ (s.bay b).state = .absent ∨ (s.bay b).state = .arriving then none
          else
            match (t.report .a b).fresh, (t.report .b b).fresh with
            | some v, some w => some (max v w)
            | some v, none => some v
            | none, some w => some w
            | none, none => none)) ∧
      t.tu.nextRound = s.tu.nextRound + 1000 ∧ t.tu.sensors = s.tu.sensors ∧
      (∀ n : SensorNo, (s.sensorDesc n).fitted = true → (∀ m : SensorNo, m < n → (s.sensorDesc m).fitted = false) →
        t.tu.reading = some (n, s.uptime) ∧ t.tu.zones = s.tu.zones ∧
        t = { s with tu := t.tu, bc := { s.bc with bays := t.bc.bays }, xm := t.xm, pa := t.pa, pb := t.pb } ∧
        (∀ b : BayNo, t.bay b = { s.bay b with driveTemp := (t.bay b).driveTemp }) ∧
        portsNotified s t ∧ untouched s t [bayArea]) ∧
      ((∀ n : SensorNo, (s.sensorDesc n).fitted = false) → t.tu.reading = none)

/-- A good read within its 20 ms makes the sensor FRESH with the reading of its two bytes, the first the more significant, in h°C, rounded
down and clamped. A read that fails, by a
missing acknowledge within its 20 ms or by the timeout at their end, counts up to three, and the third in a row loses a FRESH
sensor (R68 to R70). That at 20 ms either outcome may be taken, and that the next read starts at the uptime at which this one
ended, are the model's own (notes/assumptions/17.md). -/
def Obligations.ReadsRefreshOrCountFailures : Prop :=
  (∀ (n : SensorNo) (u : Uptime) (first second : Byte) (raw : BitVec 16) (s : State), s.phase = .running →
     s.tu.reading = some (n, u) → readPastTimeout s.uptime u = false →
     raw = BitVec.ofNat 16 (256 * first.toNat + second.toNat) →
     ∃ t, exec (.sensorReadComplete (.good first second)) s = .next t ∧
       t.sensor n =
         { s.sensor n with
           state := .fresh, failures := 0, lossLogged := false, value := some (max (-80) (min 300 (raw.toInt / 8))),
           clamped := decide (max (-80) (min 300 (raw.toInt / 8)) ≠ raw.toInt / 8), raw := raw.toInt,
           lastGood := some s.uptime } ∧
       (∀ m : SensorNo, m ≠ n → t.sensor m = s.sensor m) ∧
       t.tu.reading = (nextFitted s (n.val + 1)).map (fun m => (m, s.uptime)) ∧
       ((nextFitted s (n.val + 1)).isSome →
         t = { s with tu := t.tu, ew := t.ew, xm := t.xm, pa := t.pa, pb := t.pb } ∧ portsNotified s t ∧
         untouched s t [sensorRegion n, eventRegion s.ew.latest, eventHeaderRegion])) ∧
  ∀ (n : SensorNo) (u : Uptime) (c : Instr) (kind : FailureKind) (s : State), s.phase = .running →
    s.tu.reading = some (n, u) →
    (((∃ w : BusDirection, c = .sensorReadComplete (.addressNack w)) ∧ kind = .addressNack ∧
        readPastTimeout s.uptime u = false) ∨
      (c = .sensorReadComplete .pointerNack ∧ kind = .pointerNack ∧ readPastTimeout s.uptime u = false) ∨
      (c = .sensorReadTimeout ∧ kind = .timeout ∧ uptimeReached s.uptime (u + 20) = true)) →
    ∃ t, exec c s = .next t ∧
      (((s.sensor n).state = .fresh ∧ 2 ≤ (s.sensor n).failures) →
        t.sensor n =
          { s.sensor n with state := .lost, failures := 3, lastFailure := kind, value := none, lossLogged := true }) ∧
      (((s.sensor n).state ≠ .fresh ∨ (s.sensor n).failures < 2) →
        t.sensor n = { s.sensor n with failures := min 3 ((s.sensor n).failures + 1), lastFailure := kind }) ∧
      (∀ m : SensorNo, m ≠ n → t.sensor m = s.sensor m) ∧
      t.tu.reading = (nextFitted s (n.val + 1)).map (fun m => (m, s.uptime)) ∧
      ((nextFitted s (n.val + 1)).isSome →
        t = { s with tu := t.tu, ew := t.ew, xm := t.xm, pa := t.pa, pb := t.pb } ∧ portsNotified s t ∧
        untouched s t [sensorRegion n, eventRegion s.ew.latest, eventHeaderRegion])

/-- The end of a round, with the read of the last fitted sensor or at the start of a round without sensors. A zone with no term is BLIND
with no temperature and its flags kept; any other is SEEING at its greatest term, with the lowest-numbered source of it, sensors
before bays, and its flags set from their thresholds on and cleared from 4 h°C below (R76 to R78). The cooling controller has the
five fields (R80), the events come zone by zone (R77, R78, R81), and the rails with queued bays of a zone whose critical flag
changed stand examined (R79). Which zone's rails are examined first is an inference (notes/assumptions/14.md). -/
def Obligations.EndOfRoundSettlesEveryZone : Prop :=
  ∀ (c : Instr) (s : State), s.phase = .running →
    ((c = .temperatureRoundStart ∧ s.tu.reading = none ∧ uptimeReached s.uptime s.tu.nextRound = true ∧
        ∀ n : SensorNo, (s.sensorDesc n).fitted = false) ∨
      ∃ (n : SensorNo) (u : Uptime), s.tu.reading = some (n, u) ∧
        (∀ m : SensorNo, n < m → (s.sensorDesc m).fitted = false) ∧
        ((∃ o : ReadOutcome, c = .sensorReadComplete o ∧ readPastTimeout s.uptime u = false) ∨
          (c = .sensorReadTimeout ∧ uptimeReached s.uptime (u + 20) = true))) →
    ∃ t, exec c s = .next t ∧ t.tu.reading = none ∧
      (∀ z : ZoneNo,
        ((∀ (h : Hottest) (v : Int), ¬ givesTerm t z h v) →
          t.sense z = { s.sense z with temp := none, hottest := .none, sight := .blind }) ∧
        (∀ (h : Hottest) (v : Int), givesTerm t z h v →
          (∀ (g : Hottest) (w : Int), givesTerm t z g w → w < v ∨ (w = v ∧ h.rank ≤ g.rank)) →
          t.sense z =
            { temp := some v, hottest := h, sight := .seeing
              warn :=
                if (s.sense z).warn = true then decide ((s.zoneDesc z).warn - 4 < v) else decide ((s.zoneDesc z).warn ≤ v)
              critical :=
                if (s.sense z).critical = true then decide ((s.zoneDesc z).critical - 4 < v)
                else decide ((s.zoneDesc z).critical ≤ v) }) ∧
        t.zone z = { s.zone z with sense := t.sense z } ∧
        ((t.sense z).critical ≠ (s.sense z).critical → ∀ e ∈ s.ps.queue, (s.bayDesc e.bay).zone = z →
          examined t (railOf s e.bay))) ∧
      (∀ b : BayNo,
        leftOrAdmitted
          { s with
            bc := { s.bc with bays := Vector.ofFn fun d => { s.bay d with driveTemp := (t.bay d).driveTemp } } } t b) ∧
      (c ≠ .temperatureRoundStart → ∀ b : BayNo, (t.bay b).driveTemp = (s.bay b).driveTemp) ∧
      ((∀ z : ZoneNo, (t.sense z).critical = (s.sense z).critical) → t.ps = s.ps) ∧
      (s.ps.queue = [] →
        ∃ first : List Event, first.length ≤ 1 ∧ (c = .temperatureRoundStart → first = []) ∧
          eventsLogged s t (first ++ (List.finRange 4).flatMap fun z => roundEvents s t z)) ∧
      onlyBaysAndPower { s with tu := t.tu, cc := { s.cc with zones := t.cc.zones } } t ∧
      untouched s t
        ([bayArea, queueRegion, eventHeaderRegion, eventArea] ++ railRegions ++ (List.finRange 4).map zoneRegion ++
          (List.finRange 16).map sensorRegion)

/-! ### Cooling and fans -/

/-- A cooling period forms every zone's demand from its override, its curve or the failsafe duty (R86), raises it by the fault
bump of each FAILED fan (R88), lifts it to the floors that apply (R89), moves the duty toward this target by at most its slew
steps and clamps it (R90, R91). It drives every fan at its zone's duty, and hands the charges of the duties to the rails and
the fan table (R85, R97 to R99). A rail whose fan part fell, or on which a fan charge fell, stands examined (R32, R40). -/
def Obligations.CoolingPeriodFormsEveryDuty : Prop :=
  ∀ s : State, s.phase = .running → uptimeReached s.uptime s.cc.nextPeriod = true →
    ∃ t, exec .coolingPeriod s = .next t ∧ t.cc.nextPeriod = s.cc.nextPeriod + 1000 ∧
      (∀ z : ZoneNo,
        ((t.zone z).demand, (t.zone z).source) =
          (match (s.zone z).override with
            | some o => (o.duty, .override)
            | none =>
              if (s.zone z).sense.sight = .seeing then
                (curveValue (s.zone z).curve ((s.zone z).sense.temp.getD 0), .curve)
              else (s.dl.desc.failsafeDuty, .failsafe)) ∧
        (t.zone z).failedFans =
          ((List.finRange 12).filter fun f =>
            (s.fanDesc f).fitted && decide ((s.fanDesc f).zone = z ∧ (s.fan f).state = .failed)).length ∧
        ((t.zone z).drawerFloorInForce = true ↔
          ∃ d : DrawerNo, (s.drawer d).zoneSet.getLsbD z.val = true ∧ (s.drawer d).state ≠ .closed) ∧
        ((t.zone z).failsafeFloorInForce = true ↔ s.pa.state ≠ .live ∧ s.pb.state ≠ .live) ∧
        (t.zone z).target =
          max (min 255 ((t.zone z).demand + (s.zoneDesc z).bump * (t.zone z).failedFans))
            (max (if (t.zone z).drawerFloorInForce = true then (s.zoneDesc z).drawerFloor else 0)
              (if (t.zone z).failsafeFloorInForce = true then s.dl.desc.failsafeDuty else 0)) ∧
        (t.zone z).duty =
          max (s.zoneDesc z).minDuty
            (min 255
              (if (s.zone z).duty < (t.zone z).target then min (t.zone z).target ((s.zone z).duty + (s.zoneDesc z).upStep)
                else if (t.zone z).target < (s.zone z).duty then
                  max (t.zone z).target ((s.zone z).duty - (s.zoneDesc z).downStep)
                else (s.zone z).duty)) ∧
        (t.zone z).lastPeriod = some s.uptime ∧ (t.zone z).curve = (s.zone z).curve ∧
        (t.zone z).override = (s.zone z).override ∧ (t.zone z).sense = (s.zone z).sense) ∧
      (∀ f : FanNo,
        t.cc.pwm[f] = (if (s.fanDesc f).fitted then (t.zone (s.fanDesc f).zone).duty else 0) ∧
        (t.fan f).duty = t.cc.pwm[f] ∧ (t.fan f).charge = fanCharge (s.fanDesc f) t.cc.pwm[f] ∧
        (t.fan f).state = (s.fan f).state ∧ (t.fan f).rpm = (s.fan f).rpm) ∧
      (∀ r : RailNo, (t.rail r).fanPart = fanCharges t r) ∧ (∀ b : BayNo, leftOrAdmitted s t b) ∧
      (∀ r : RailNo,
        ((t.rail r).fanPart < (s.rail r).fanPart ∨
          ∃ f : FanNo, (s.fanDesc f).rail = r ∧ (t.fan f).charge < (s.fan f).charge) → examined t r) ∧
      onlyBaysAndPower { s with cc := t.cc, fm := { s.fm with fans := t.fm.fans } } t ∧
      untouched s t
        ([bayArea, queueRegion, eventHeaderRegion, eventArea] ++ railRegions ++ (List.finRange 4).map zoneRegion ++
          (List.finRange 12).map fanRegion)

/-- The expiry of a zone's override ends it and computes no duty (R96). During LOADING a frame of all-zero levels is sent when it is
due, and RESET_N low holds the three lines of the indicator low (R133). A locate whose end is reached goes off (R130). That
IND_DATA stays at the last bit sent is the model's own (notes/assumptions/38.md). -/
def Obligations.ExpiriesAndDarkFrames : Prop :=
  (∀ (z : ZoneNo) (o : Override) (s : State), s.phase = .running → (s.zone z).override = some o →
     uptimeReached s.uptime o.endAt = true →
     ∃ t, exec (.overrideExpiry z) s = .next t ∧ t.zone z = { s.zone z with override := none } ∧
       (∀ y : ZoneNo, y ≠ z → t.zone y = s.zone y) ∧
       t = { s with cc := { s.cc with zones := t.cc.zones }, xm := t.xm, pa := t.pa, pb := t.pb } ∧
       portsNotified s t ∧ untouched s t [zoneRegion z]) ∧
  (∀ s : State, s.phase = .loading → uptimeReached s.uptime s.ie.nextFrame = true →
    exec .loadingDarkFrame s =
      .next { s with
        ie := { s.ie with
          lights := Vector.replicate 96 { green := 0, amber := 0 }
          lines := { clk := false, data := false, latch := false }
          nextFrame := s.ie.nextFrame + 10 } }) ∧
  (∀ s : State, ∃ t, exec .resetNGoesLow s = .next t ∧ t.ie.lines = { clk := false, data := false, latch := false }) ∧
  ∀ (b : BayNo) (s : State), s.phase = .running → (s.locate b).on = true → timerDue s.uptime (s.locate b).endAt = true →
    exec (.locateExpiry b) s =
      .next { s with ie := { s.ie with locates := s.ie.locates.set b { on := false, endAt := none } } }

/-- The charge of a fan by its duty: between idle and full, idle at 0, full at 255, above idle at any duty above 0 when full
exceeds idle, and never lower at a higher duty; 0 for an unfitted fan (R98). -/
def Obligations.FanChargeFollowsTheCubeLaw : Prop :=
  ∀ (d : FanDesc) (duty : Nat), d.idle ≤ d.full → d.full ≤ 3000 → duty ≤ 255 →
    (d.full - d.idle) * duty ^ 3 < 2 ^ 46 ∧
    (d.fitted = false → fanCharge d duty = 0) ∧
    (d.fitted = true →
      fanCharge d duty = d.idle + ((d.full - d.idle) * duty ^ 3 + 16581374) / 16581375 ∧
      d.idle ≤ fanCharge d duty ∧ fanCharge d duty ≤ d.full ∧ fanCharge d 0 = d.idle ∧ fanCharge d 255 = d.full ∧
      (0 < duty → d.idle < d.full → d.idle < fanCharge d duty) ∧
      ∀ less : Nat, less ≤ duty → fanCharge d less ≤ fanCharge d duty)

/-- The value of a valid curve: the first and the last duty beyond its ends, between two points the duty of the lower one plus the
ceiling of the interpolated rise, and so each point's duty at the point's temperature and never less at a higher one
(R87). -/
def Obligations.CurveRisesThroughItsPoints : Prop :=
  ∀ ps : List CurvePoint, validCurve ps = true →
    (∀ t u : Int, t ≤ u → curveValue ps t ≤ curveValue ps u) ∧ (∀ p ∈ ps, curveValue ps p.temp = p.duty) ∧
    (∀ (l r : List CurvePoint) (p q : CurvePoint) (t : Int), ps = l ++ p :: q :: r → p.temp ≤ t → t < q.temp →
      (curveValue ps t : Int) =
        p.duty + (((q.duty : Int) - p.duty) * (t - p.temp) + (q.temp - p.temp) - 1) / (q.temp - p.temp) ∧
      curveValue ps t ≤ q.duty) ∧
    (∀ p t, ps.head? = some p → t ≤ p.temp → curveValue ps t = p.duty) ∧
    ∀ p t, ps.getLast? = some p → p.temp ≤ t → curveValue ps t = p.duty

/-- A rising edge on a fitted fan's tach input: accepted when the capture waits, disregarded within the blanking time, and else timed into
the period and the rpm; the timeout clears both (R107 to R109). The capture timer as the time since the last accepted edge, that an
edge later than 2 s finds the timeout taken first, and the tie at 2 s are the model's own (notes/assumptions/19.md). -/
def Obligations.TachEdgesAreTimedOrBlanked : Prop :=
  ∀ (f : FanNo) (us : Fin 1000) (s : State), s.phase = .running →
    ((s.fanDesc f).fitted = true → (s.fan f).capture = .waiting →
      exec (.tachEdge f us) s = .next (s.setFan f { s.fan f with capture := .timing s.uptime us })) ∧
    (∀ (m : Uptime) (u : Fin 1000), (s.fanDesc f).fitted = true → (s.fan f).capture = .timing m u →
      (elapsedMicros m u s.uptime us < s.dl.desc.blankingTime → exec (.tachEdge f us) s = .next s) ∧
      (s.dl.desc.blankingTime ≤ elapsedMicros m u s.uptime us → elapsedMicros m u s.uptime us ≤ 2000000 →
        exec (.tachEdge f us) s =
          .next (s.setFan f
            { s.fan f with
              period := some (elapsedMicros m u s.uptime us)
              rpm := 60000000 / (elapsedMicros m u s.uptime us * (s.fanDesc f).pulses)
              capture := .timing s.uptime us })) ∧
      (s.dl.desc.blankingTime ≤ elapsedMicros m u s.uptime us → 2000000 < elapsedMicros m u s.uptime us →
        exec (.tachEdge f us) s =
          .next (s.setFan f { s.fan f with period := none, rpm := 0, capture := .timing s.uptime us }))) ∧
    ((s.fanDesc f).fitted = false → exec (.tachEdge f us) s = .next s) ∧
    ∀ (m : Uptime) (u : Fin 1000), (s.fan f).capture = .timing m u → 2000000 ≤ elapsedMicros m u s.uptime us →
      exec (.tachTimeout f us) s =
        .next (s.setFan f { s.fan f with rpm := 0, period := none, capture := .waiting })

/-- An evaluation judges every fitted fan by R112 to R114 and leaves unfitted ones. -/
def Obligations.EvaluationJudgesEveryFittedFan : Prop :=
  ∀ s : State, s.phase = .running → uptimeReached s.uptime s.fm.nextEvaluation = true →
    ∃ t, exec .fanEvaluation s = .next t ∧ t.fm.nextEvaluation = s.fm.nextEvaluation + 1000 ∧
      (∀ f : FanNo, (s.fanDesc f).fitted = false → t.fan f = s.fan f) ∧
      (∀ f : FanNo, (s.fanDesc f).fitted = true →
        t.fan f =
          { s.fan f with
            lastEvaluation := some s.uptime, state := (t.fan f).state, count := (t.fan f).count } ∧
        ((s.fan f).state = .starting → uptimeReached s.uptime (s.dl.epoch + 5000) = false →
          (t.fan f).state = .starting ∧ (t.fan f).count = 0) ∧
        ((s.fan f).state = .starting → uptimeReached s.uptime (s.dl.epoch + 5000) = true →
          (t.fan f).state = .running ∧
          (t.fan f).count = (if (s.fan f).rpm < (s.fanDesc f).minRpm then 1 else 0)) ∧
        ((s.fan f).state = .running → (s.fanDesc f).minRpm ≤ (s.fan f).rpm →
          (t.fan f).state = .running ∧ (t.fan f).count = 0) ∧
        ((s.fan f).state = .running → (s.fan f).rpm < (s.fanDesc f).minRpm → (s.fan f).count < 2 →
          (t.fan f).state = .running ∧ (t.fan f).count = (s.fan f).count + 1) ∧
        ((s.fan f).state = .running → (s.fan f).rpm < (s.fanDesc f).minRpm → (s.fan f).count = 2 →
          (t.fan f).state = .failed ∧ (t.fan f).count = 0) ∧
        ((s.fan f).state = .failed → (s.fan f).rpm < (s.fanDesc f).minRpm →
          (t.fan f).state = .failed ∧ (t.fan f).count = 0) ∧
        ((s.fan f).state = .failed → (s.fanDesc f).minRpm ≤ (s.fan f).rpm → (s.fan f).count < 2 →
          (t.fan f).state = .failed ∧ (t.fan f).count = (s.fan f).count + 1) ∧
        ((s.fan f).state = .failed → (s.fanDesc f).minRpm ≤ (s.fan f).rpm → (s.fan f).count = 2 →
          (t.fan f).state = .running ∧ (t.fan f).count = 0)) ∧
      t = { s with fm := t.fm, ew := t.ew, xm := t.xm, pa := t.pa, pb := t.pb } ∧ portsNotified s t ∧
      untouched s t ([eventHeaderRegion, eventArea] ++ (List.finRange 12).map fanRegion)

/-! ### Indicators -/

/-- A refresh puts pending contents in force at their step boundaries, composes every bay and sends the frame, and each bay's shown colour
is the one sent (R123, R132, R134). A bay's base pattern stands in the normal map, or in the service map while its drawer is OPEN or
SETTLING (R124), the holder's port layer over the other (R126), the locate or fault pattern on top (R128). A layer shows the code
at its place of the epoch time (R121), and leaves, replaces or mixes the colour beneath (R131). The level of IND_DATA after the
frame is the model's own (notes/assumptions/38.md). -/
def Obligations.RefreshSendsTheComposedColours : Prop :=
  ∀ s : State, s.phase = .running → uptimeReached s.uptime s.ie.nextFrame = true →
    ∃ t, exec .indicatorRefresh s = .next t ∧
      (∀ n : PatternNo,
        ((s.uptime - s.dl.epoch).toNat % (50 * (s.pattern n).stepCode) = 0 →
          t.pattern n = (s.ie.pendingPatterns[n]).getD (s.pattern n) ∧ t.ie.pendingPatterns[n] = none) ∧
        ((s.uptime - s.dl.epoch).toNat % (50 * (s.pattern n).stepCode) ≠ 0 →
          t.pattern n = s.pattern n ∧ t.ie.pendingPatterns[n] = s.ie.pendingPatterns[n])) ∧
      (∀ b : BayNo,
        t.bay b = { s.bay b with shown := t.ie.lights[b] } ∧
        ∃ (code : PatternNo → Fin 4) (lay : PatternNo → Colour → Colour) (base lower upper : PatternNo),
          (∀ (n : PatternNo) (len index place : Nat),
            len = (if (t.pattern n).stretch then 2 * (8 + (t.pattern n).lengthAdd) else 8 + (t.pattern n).lengthAdd) →
            index =
              (if (s.bayDesc b).altPhase then
                ((s.uptime - s.dl.epoch).toNat / (50 * (t.pattern n).stepCode) % len + len / 2) % len
              else (s.uptime - s.dl.epoch).toNat / (50 * (t.pattern n).stepCode) % len) →
            place = (if (t.pattern n).stretch then index / 2 else index) →
            code n = (t.pattern n).steps.toList.getD place 0) ∧
          (∀ (n : PatternNo) (below selected : Colour),
            selected =
              (match code n with
                | 1 => (t.pattern n).colour1
                | 2 => (t.pattern n).colour2
                | _ => (t.pattern n).colour3) →
            (code n = 0 → lay n below = below) ∧
            (code n ≠ 0 → (t.pattern n).blend = false → lay n below = selected) ∧
            (code n ≠ 0 → (t.pattern n).blend = true →
              (lay n below).green.val = (selected.green.val + below.green.val) / 2 ∧
              (lay n below).amber.val = (selected.amber.val + below.amber.val) / 2)) ∧
          base =
            (if (s.bay b).state = .disabled ∨
                (∀ d : DrawerNo, (s.bayDesc b).drawer = some d → (s.drawer d).state = .closed) then s.dl.desc.normalMap
              else s.dl.desc.serviceMap).toList.getD (s.bay b).state.code 0 ∧
          lower = (if (s.bay b).holder = some .a then s.layer .b b else s.layer .a b) ∧
          upper = (if (s.bay b).holder = some .a then s.layer .a b else s.layer .b b) ∧
          t.ie.lights[b] =
            (if (s.locate b).on = true then
              lay s.dl.desc.locatePattern (lay upper (lay lower (lay base { green := 0, amber := 0 })))
            else if (s.bay b).state = .seated .locked ∨ (s.bay b).state = .leaving .locked then
              lay s.dl.desc.faultPattern (lay upper (lay lower (lay base { green := 0, amber := 0 })))
            else lay upper (lay lower (lay base { green := 0, amber := 0 })))) ∧
      t = { s with
        bc := { s.bc with bays := t.bc.bays }
        ie := { s.ie with
          patterns := t.ie.patterns, pendingPatterns := t.ie.pendingPatterns, lights := t.ie.lights,
          lines :=
            { clk := false, data := (t.ie.lights[(95 : BayNo)]).amber.val.testBit 0, latch := false }
          nextFrame := s.ie.nextFrame + 10 }
        xm := t.xm, pa := t.pa, pb := t.pb } ∧
      portsNotified s t ∧ untouched s t [bayArea]

/-! ### The ports -/

/-- Writes to POST, NOTICE and NOTICE_ENABLE: set, clear by ones, and replace, on the bits that exist; the message goes out when
NOTICE AND NOTICE_ENABLE is left non-zero (R140 to R142).
The count of messages, and that a write sends one, are the model's own (notes/assumptions/29.md). -/
def Obligations.RegisterWritesSetClearAndReplace : Prop :=
  ∀ (x : Port) (v : Word) (s : State), s.phase ≠ .inReset →
    (∃ t, exec (.postWrite x v) s = .next t ∧ t = s.setPort x { s.port x with post := (t.port x).post } ∧
      ∀ n : Nat, (t.port x).post.getLsbD n = ((s.port x).post.getLsbD n || (decide (n < 24) && v.getLsbD n))) ∧
    (∃ t, exec (.noticeWrite x v) s = .next t ∧
      t = s.setPort x { s.port x with notice := (t.port x).notice, messages := (t.port x).messages } ∧
      (∀ n : Nat, (t.port x).notice.getLsbD n = ((s.port x).notice.getLsbD n && !v.getLsbD n)) ∧
      (t.port x).messages =
        (s.port x).messages + (if (t.port x).notice &&& (t.port x).enable = 0 then 0 else 1)) ∧
    ∃ t, exec (.noticeEnableWrite x v) s = .next t ∧
      t = s.setPort x { s.port x with enable := (t.port x).enable, messages := (t.port x).messages } ∧
      (∀ n : Nat, (t.port x).enable.getLsbD n = (decide (n < 30) && v.getLsbD n)) ∧
      (t.port x).messages =
        (s.port x).messages + (if (t.port x).notice &&& (t.port x).enable = 0 then 0 else 1)

/-- A heartbeat of a LIVE port restarts its silence timer and nothing else. One of another port makes it LIVE with PORT_LIVE, PEER for
the other port and the live record. During LOADING it is recorded (R160, R162, R166). That the posts still waiting when the port
becomes LIVE stay as they are is the model's own (notes/assumptions/44.md). -/
def Obligations.HeartbeatMakesThePortLive : Prop :=
  ∀ (x : Port) (v : Word) (s : State),
    (s.phase = .loading →
      exec (.heartbeat x v) s = .next (s.setPort x { s.port x with heartbeatSeen := true })) ∧
    (s.phase = .running → (s.port x).state = .live →
      exec (.heartbeat x v) s =
        .next (s.setPort x
          { s.port x with
            silenceEnd :=
              if s.dl.desc.heartbeatTimeout = 0 then none
              else some (uptimeAfter s.uptime (1000 * s.dl.desc.heartbeatTimeout)) })) ∧
    (s.phase = .running → (s.port x).state ≠ .live →
      ∃ t, exec (.heartbeat x v) s = .next t ∧ (t.port x).state = .live ∧
        (t.port x).silenceEnd =
          (if s.dl.desc.heartbeatTimeout = 0 then none
            else some (uptimeAfter s.uptime (1000 * s.dl.desc.heartbeatTimeout))) ∧
        (t.port x).post = (s.port x).post ∧ (t.port x).enable = (s.port x).enable ∧
        onlyNotified (s.port (otherPort x)) (t.port (otherPort x)) ∧
        (t.port (otherPort x)).notice.getLsbD 28 = true ∧
        eventLogged s t (eventPortLive x (s.port x).state) ∧
        Memory.read t.xm (liveBase + 7) = byteOf t.pa.state.code ∧
        Memory.read t.xm (liveBase + 8) = byteOf t.pb.state.code ∧
        t = { s with ew := t.ew, xm := t.xm, pa := t.pa, pb := t.pb } ∧
        untouched s t [liveRegion, eventRegion s.ew.latest, eventHeaderRegion])

/-- A window write stores exactly those of its bytes that fall in the port's own slots and reports, little-endian, and discards the
others; a 32-bit write to a register is that register's write (R138, R139). A read returns the exchange memory below 0x3000, zeros
from there to the registers, a register at a read of its whole word, zeros at a narrower one, and over several words what the
single-word reads return (R137 to R140). HEARTBEAT reads the time left, 0xFFFFFFFF at a timeout of 0, and 0 during LOADING
(R161). -/
def Obligations.WindowAccessesReadAndWrite : Prop :=
  (∀ (x : Port) (offset : BitVec 15) (d : WriteData) (s : State), s.phase ≠ .inReset →
     (Instr.windowWrite x offset d).wellFormed = true →
     ((∀ v : Word, d = .word v → offset.toNat < 0x7FF0) →
       ∃ t, exec (.windowWrite x offset d) s = .next t ∧ t = { s with xm := t.xm } ∧
         ∀ a : Nat, Memory.read t.xm a =
           if offset.toNat ≤ a ∧ a < offset.toNat + d.size ∧ writableBy x a = true then
             (writeBytes d).getD (a - offset.toNat) 0
           else Memory.read s.xm a) ∧
     ∀ v : Word,
       exec (.windowWrite x 0x7FF0 (.word v)) s = exec (.postWrite x v) s ∧
       exec (.windowWrite x 0x7FF4 (.word v)) s = exec (.noticeWrite x v) s ∧
       exec (.windowWrite x 0x7FF8 (.word v)) s = exec (.noticeEnableWrite x v) s ∧
       exec (.windowWrite x 0x7FFC (.word v)) s = exec (.heartbeat x v) s) ∧
  ∀ (x : Port) (s : State),
    (∀ a n : Nat, a + n ≤ 0x3000 → readWindow s x a n = Memory.readRun s.xm a n) ∧
    (∀ a n : Nat, 0x3000 ≤ a → a + n ≤ 0x7FF0 → readWindow s x a n = List.replicate n 0) ∧
    (∀ a n : Nat, 0x7FF0 ≤ a → n < 4 → a % 4 + n ≤ 4 → readWindow s x a n = List.replicate n 0) ∧
    readWindow s x 0x7FF0 4 = le32 (s.port x).post.toNat ∧
    readWindow s x 0x7FF4 4 = le32 (s.port x).notice.toNat ∧
    readWindow s x 0x7FF8 4 = le32 (s.port x).enable.toNat ∧
    (s.phase ≠ .running → readWindow s x 0x7FFC 4 = le32 0) ∧
    (s.phase = .running → s.dl.desc.heartbeatTimeout = 0 → readWindow s x 0x7FFC 4 = le32 0xFFFFFFFF) ∧
    (s.phase = .running → s.dl.desc.heartbeatTimeout ≠ 0 →
      ((s.port x).silenceEnd = none → readWindow s x 0x7FFC 4 = le32 0) ∧
      ∀ e : Uptime, (s.port x).silenceEnd = some e →
        readWindow s x 0x7FFC 4 = le32 (if uptimeReached s.uptime e = true then 0 else (e - s.uptime).toNat)) ∧
    ∀ a n : Nat, a % 4 = 0 → readWindow s x a (4 + n) = readWindow s x a 4 ++ readWindow s x (a + 4) n

/-- The end of a LIVE port's silence timer: SILENT with its timer stopped, PEER for the other port, every claim and every port layer of
it gone, its lingering orders finished PORT_SILENT with their bays' states and queue places, its posted orders finished PORT_SILENT,
and the other port and the bays' states as they were (R163, R164). That the posts no order stands behind are dropped at the silence
itself, and that the turn of order intake stays, are inferences (notes/assumptions/16.md). -/
def Obligations.SilenceTakesAwayWhatThePortHeld : Prop :=
  ∀ (x : Port) (s : State), s.phase = .running → (s.port x).state = .live →
    timerDue s.uptime (s.port x).silenceEnd = true →
    ∃ t, exec (.silenceTimerEnd x) s = .next t ∧ (t.port x).state = .silent ∧ (t.port x).silenceEnd = none ∧
      (t.port x).enable = (s.port x).enable ∧
      onlyNotified (s.port (otherPort x)) (t.port (otherPort x)) ∧
      (t.port (otherPort x)).notice.getLsbD 28 = true ∧
      (∀ b : BayNo,
        (t.bay b).holder = (if (s.bay b).holder = some x then none else (s.bay b).holder) ∧
        t.bay b = { s.bay b with holder := (t.bay b).holder, link := (t.bay b).link } ∧
        t.layer x b = 0 ∧ t.layer (otherPort x) b = s.layer (otherPort x) b) ∧
      (∀ n : SlotNo, lingeringOf t x n = none ∧ posted t x n = false) ∧
      (∀ (n : SlotNo) (c : Context), lingeringOf s x n = some c →
        slotFinished t x n
          { result := .portSilent
            data :=
              [byteOf (s.bay (bayOf (argByte c.args 4))).state.code, byteOf (queuePlace s (bayOf (argByte c.args 4)))] }) ∧
      (∀ n : SlotNo, lingeringOf s x n = none → posted s x n = true → slotState s x n = slotPosted →
        slotFinished t x n (plain .portSilent)) ∧
      (t.oi.contexts.filter fun c => decide (c.port ≠ x)) = (s.oi.contexts.filter fun c => decide (c.port ≠ x)) ∧
      t = { s with
        bc := { s.bc with bays := t.bc.bays }
        ie := { s.ie with layersA := t.ie.layersA, layersB := t.ie.layersB }
        oi := { s.oi with contexts := t.oi.contexts }
        ew := t.ew, xm := t.xm, pa := t.pa, pb := t.pb } ∧
      untouched s t ([liveRegion, bayArea, eventHeaderRegion, eventArea] ++ (List.finRange 24).map (slotRegion x))

/-! ### Taking posts and lingering orders -/

/-- Order intake takes the lowest post of the port whose turn it is, or of the other port when that one has none; it drops the post of
a slot with a taken order or one not POSTED, with STRAY_POST, finishes an order of a port that is not LIVE with PORT_SILENT, and
handles an order of a LIVE port, which then is DONE or lingers (R145, R146, R148). That a post set before the port's heartbeat and
taken after it is handled as one of a LIVE port is the model's own (notes/assumptions/44.md). -/
def Obligations.TakePostChoosesDropsAndFinishes : Prop :=
  ∀ (x : Port) (n : SlotNo) (s : State), s.phase = .running → posted s x n = true →
    (∀ m : SlotNo, m < n → posted s x m = false) →
    (s.oi.turn = x ∨ ∀ m : SlotNo, posted s s.oi.turn m = false) →
    ∃ t, exec .takePost s = .next t ∧ t.oi.turn = otherPort x ∧ posted t x n = false ∧
      (∀ m : SlotNo, m ≠ n → posted t x m = posted s x m) ∧
      (t.port (otherPort x)).post = (s.port (otherPort x)).post ∧
      ((contextOf s x n).isSome →
        eventLogged s t (eventStrayPost x n (slotState s x n) true) ∧ t.oi.contexts = s.oi.contexts ∧ t.bc = s.bc ∧
        t.ps = s.ps ∧ untouched s t [eventHeaderRegion, eventRegion s.ew.latest]) ∧
      (contextOf s x n = none → slotState s x n ≠ slotPosted →
        eventLogged s t (eventStrayPost x n (slotState s x n) false) ∧ t.oi.contexts = s.oi.contexts ∧ t.bc = s.bc ∧
        t.ps = s.ps ∧ untouched s t [eventHeaderRegion, eventRegion s.ew.latest]) ∧
      (contextOf s x n = none → slotState s x n = slotPosted → (s.port x).state ≠ .live →
        slotFinished t x n (plain .portSilent) ∧ t.oi.contexts = s.oi.contexts ∧ t.ew = s.ew ∧ t.bc = s.bc ∧
        t.ps = s.ps ∧ untouched s t [slotRegion x n]) ∧
      (contextOf s x n = none → slotState s x n = slotPosted → (s.port x).state = .live →
        (slotState t x n = slotDone ∧ (t.port x).notice.getLsbD n.val = true ∧ contextOf t x n = none) ∨
        (slotState t x n = slotTaken ∧ (lingeringOf t x n).isSome))

/-- The expiry of a lingering order's wait limit finishes it TIMED_OUT with its bay's state and queue place, and lets its bay's link
go; the bay stays as it is (R151). -/
def Obligations.WaitLimitExpiryTimesTheOrderOut : Prop :=
  ∀ (x : Port) (n : SlotNo) (c : Context) (l : Linger) (e : Uptime) (s : State), s.phase = .running →
    lingeringOf s x n = some c → c.linger = some l → l.expiry = some e → uptimeReached s.uptime e = true →
    ∃ t, exec (.waitLimitExpiry x n) s = .next t ∧
      slotFinished t x n
        { result := .timedOut
          data := [byteOf (s.bay (bayOf (argByte c.args 4))).state.code, byteOf (queuePlace s (bayOf (argByte c.args 4)))] } ∧
      lingeringOf t x n = none ∧
      (∀ b : BayNo, b ≠ bayOf (argByte c.args 4) → t.bay b = s.bay b) ∧
      t.bay (bayOf (argByte c.args 4)) =
        { s.bay (bayOf (argByte c.args 4)) with
          link :=
            if (s.bay (bayOf (argByte c.args 4))).link = some (x, n) then none
            else (s.bay (bayOf (argByte c.args 4))).link } ∧
      t = { s with
        bc := { s.bc with bays := t.bc.bays }
        oi := { s.oi with contexts := t.oi.contexts }
        xm := t.xm, pa := t.pa, pb := t.pb } ∧
      portsNotified s t ∧ untouched s t [slotRegion x n, bayRegion (bayOf (argByte c.args 4))]

/-- A CANCEL_ORDER finishes the lingering order it names with CANCELLED and lets its bay's link go, then answers OK; with none it answers
NOT_FOUND and changes nothing (R153).
The command stands for the post and its handling (notes/assumptions/11.md). -/
def Obligations.CancelEndsTheNamedOrder : Prop :=
  ∀ (x : Port) (n : SlotNo) (named : Byte) (s : State), readyFor s x n → named.toNat < 24 →
    (lingeringOf s x (Fin.ofNat 24 named.toNat) = none →
      ∃ t, exec (.cancelOrder x n named) s = .next t ∧ slotFinished t x n { result := .notFound, data := [named] } ∧
        onlyAnswered s t x n) ∧
    ∀ c : Context, lingeringOf s x (Fin.ofNat 24 named.toNat) = some c →
      ∃ t, exec (.cancelOrder x n named) s = .next t ∧ slotFinished t x n { result := .ok, data := [named] } ∧
        slotFinished t x (Fin.ofNat 24 named.toNat)
          { result := .cancelled
            data := [byteOf (s.bay (bayOf (argByte c.args 4))).state.code, byteOf (queuePlace s (bayOf (argByte c.args 4)))] } ∧
        lingeringOf t x (Fin.ofNat 24 named.toNat) = none ∧
        (∀ b : BayNo, t.bay b = { s.bay b with link := (t.bay b).link }) ∧
        (t.bay (bayOf (argByte c.args 4))).link ≠ some (x, Fin.ofNat 24 named.toNat) ∧
        t = { s with
          bc := { s.bc with bays := t.bc.bays }
          oi := { contexts := t.oi.contexts, turn := otherPort x }
          xm := t.xm, pa := t.pa, pb := t.pb } ∧
        portsNotified s t ∧
        untouched s t [slotRegion x n, slotRegion x (Fin.ofNat 24 named.toNat), bayRegion (bayOf (argByte c.args 4))]

/-! ### Orders: the checks that every order passes -/

/-- An order of a LIVE port with a target or an argument that order intake checks out of its range is refused with BAD_TARGET or
BAD_ARGUMENT and result data 0, and one that passes the form check and names a bay held by the other port with HELD_ELSEWHERE
and that bay; a refused order changes nothing (R149, R158).
The command stands for the post and its handling (notes/assumptions/11.md). -/
def Obligations.RefusalsByFormAndClaim : Prop :=
  ∀ (x : Port) (n : SlotNo) (a count other flag : Byte) (limit word more : BitVec 16) (bytes steps : Vector Byte 6)
    (points : Vector RawPoint 6) (s : State), readyFor s x n →
    ((count = 0 ∨ 96 < a.toNat + count.toNat) →
      refusedWith s (.setBayPolicy x n a count other) x n (plain .badTarget) ∧
      refusedWith s (.setIndication x n a count other) x n (plain .badTarget)) ∧
    (95 < a.toNat →
      refusedWith s (.bayPowerOn x n a count other flag limit) x n (plain .badTarget) ∧
      refusedWith s (.bayPowerOff x n a) x n (plain .badTarget) ∧
      refusedWith s (.clearBayFault x n a) x n (plain .badTarget) ∧
      refusedWith s (.locate x n a count limit) x n (plain .badTarget)) ∧
    (7 < a.toNat → refusedWith s (.setProfile x n a limit word more) x n (plain .badTarget)) ∧
    (31 < a.toNat → refusedWith s (.loadPattern x n a count other flag bytes steps) x n (plain .badTarget)) ∧
    (3 < a.toNat →
      refusedWith s (.setZoneCurve x n a count points) x n (plain .badTarget) ∧
      refusedWith s (.setZoneOverride x n a count other limit) x n (plain .badTarget) ∧
      refusedWith s (.setRailLimit x n a limit word) x n (plain .badTarget)) ∧
    (23 < a.toNat → refusedWith s (.cancelOrder x n a) x n (plain .badTarget)) ∧
    (a.toNat ≤ 95 →
      (3 < count.toNat ∨ (7 < other.toNat ∧ other ≠ 0xFF) ∨ 1 < flag.toNat ∨ (flag = 1 ∧ 3600 < limit.toNat)) →
      refusedWith s (.bayPowerOn x n a count other flag limit) x n (plain .badArgument)) ∧
    (1 ≤ count.toNat → a.toNat + count.toNat ≤ 96 → 1 < other.toNat →
      refusedWith s (.setBayPolicy x n a count other) x n (plain .badArgument)) ∧
    (a.toNat ≤ 95 → (s.bay (bayOf a.toNat)).holder = some (otherPort x) →
      refusedWith s (.bayPowerOff x n a) x n { result := .heldElsewhere, data := [a] } ∧
      refusedWith s (.clearBayFault x n a) x n { result := .heldElsewhere, data := [a] } ∧
      (count.toNat ≤ 3 → (other.toNat ≤ 7 ∨ other = 0xFF) → (flag = 0 ∨ (flag = 1 ∧ limit.toNat ≤ 3600)) →
        refusedWith s (.bayPowerOn x n a count other flag limit) x n { result := .heldElsewhere, data := [a] }))

/-! ### Orders that act on the bays -/

/-- CLAIM_BAYS over bays none of which is DISABLED or held by the other port makes the port their holder, and answers OK with how many
changed, or ALREADY; a bad range, a DISABLED bay, or one held by the other port refuses the whole, in this order, naming the
lowest such bay (R156). RELEASE_BAYS frees the port's own and answers OK with how many, or refuses a bad range, or names the
lowest bay held by the other port with NOT_HELD (R157).
The command stands for the post and its handling (notes/assumptions/11.md). -/
def Obligations.ClaimAndReleaseAreAllOrNothing : Prop :=
  (∀ (x : Port) (n : SlotNo) (first count : Byte) (s : State),
     (s.phase = .running → (s.port x).state ≠ .live → s.pa.post = 0 → s.pb.post = 0 → contextOf s x n = none →
       refusedWith s (.claimBays x n first count) x n (plain .portSilent)) ∧
     (readyFor s x n →
     ((count = 0 ∨ 96 < first.toNat + count.toNat) → refusedWith s (.claimBays x n first count) x n (plain .badTarget)) ∧
     (∀ b : BayNo, 1 ≤ count.toNat → first.toNat + count.toNat ≤ 96 → b ∈ bayRange first.toNat count.toNat →
       (s.bay b).state = .disabled →
       (∀ c : BayNo, c ∈ bayRange first.toNat count.toNat → c < b → (s.bay c).state ≠ .disabled) →
       refusedWith s (.claimBays x n first count) x n { result := .badTarget, data := [byteOf b.val] }) ∧
     (1 ≤ count.toNat → first.toNat + count.toNat ≤ 96 →
       (∀ b : BayNo, b ∈ bayRange first.toNat count.toNat → (s.bay b).state ≠ .disabled) →
       (∀ b : BayNo, b ∈ bayRange first.toNat count.toNat → (s.bay b).holder ≠ some (otherPort x)) →
       ∃ t, exec (.claimBays x n first count) s = .next t ∧
         (∀ b : BayNo, t.bay b =
           { s.bay b with holder := if b ∈ bayRange first.toNat count.toNat then some x else (s.bay b).holder }) ∧
         slotFinished t x n
           (if ∀ b ∈ bayRange first.toNat count.toNat, (s.bay b).holder = some x then plain .already
             else
               { result := .ok
                 data := [byteOf ((bayRange first.toNat count.toNat).filter fun b => (s.bay b).holder = none).length] }) ∧
         t = { s with
           bc := { s.bc with bays := t.bc.bays }
           oi := { s.oi with turn := otherPort x }
           xm := t.xm, pa := t.pa, pb := t.pb } ∧
         portsNotified s t ∧ untouched s t [slotRegion x n, bayArea]) ∧
     ∀ b : BayNo, 1 ≤ count.toNat → first.toNat + count.toNat ≤ 96 →
       (∀ c : BayNo, c ∈ bayRange first.toNat count.toNat → (s.bay c).state ≠ .disabled) →
       b ∈ bayRange first.toNat count.toNat → (s.bay b).holder = some (otherPort x) →
       (∀ c : BayNo, c ∈ bayRange first.toNat count.toNat → c < b → (s.bay c).holder ≠ some (otherPort x)) →
       refusedWith s (.claimBays x n first count) x n { result := .heldElsewhere, data := [byteOf b.val] })) ∧
  ∀ (x : Port) (n : SlotNo) (first count : Byte) (s : State), readyFor s x n →
    ((count = 0 ∨ 96 < first.toNat + count.toNat) → refusedWith s (.releaseBays x n first count) x n (plain .badTarget)) ∧
    (1 ≤ count.toNat → first.toNat + count.toNat ≤ 96 →
      (∀ b : BayNo, b ∈ bayRange first.toNat count.toNat → (s.bay b).holder ≠ some (otherPort x)) →
      ∃ t, exec (.releaseBays x n first count) s = .next t ∧
        (∀ b : BayNo, t.bay b =
          { s.bay b with
            holder := if b ∈ bayRange first.toNat count.toNat then none else (s.bay b).holder }) ∧
        slotFinished t x n
          { result := .ok
            data := [byteOf ((bayRange first.toNat count.toNat).filter fun b => (s.bay b).holder = some x).length] } ∧
        t = { s with
          bc := { s.bc with bays := t.bc.bays }
          oi := { s.oi with turn := otherPort x }
          xm := t.xm, pa := t.pa, pb := t.pb } ∧
        portsNotified s t ∧ untouched s t [slotRegion x n, bayArea]) ∧
    ∀ b : BayNo, 1 ≤ count.toNat → first.toNat + count.toNat ≤ 96 → b ∈ bayRange first.toNat count.toNat →
      (s.bay b).holder = some (otherPort x) →
      (∀ c : BayNo, c ∈ bayRange first.toNat count.toNat → c < b → (s.bay c).holder ≠ some (otherPort x)) →
      refusedWith s (.releaseBays x n first count) x n { result := .notHeld, data := [byteOf b.val] }

/-- BAY_POWER_ON without the wait flag, by the bay's state: refusals name why and change nothing; a bay in SPINUP, ACTIVE or COOLOFF takes
the profile and the priority and answers ALREADY; a QUEUED bay takes them too, and at another priority moves in the queue and
answers OK; an IDLE bay is queued at the priority and answers OK; either may be admitted at once, and answers with its state
and place after (R17, R18). After a join, a move or a change of a queued bay's profile its rail stands examined (R40).
The command stands for the post and its handling (notes/assumptions/11.md). -/
def Obligations.PowerOnWithoutWaiting : Prop :=
  ∀ (x : Port) (n : SlotNo) (bay priority profile : Byte) (limit : BitVec 16) (s : State), readyFor s x n →
    bay.toNat < 96 → priority.toNat ≤ 3 → (profile.toNat ≤ 7 ∨ profile = 0xFF) →
    (s.bay (bayOf bay.toNat)).holder ≠ some (otherPort x) →
    (∀ r : Result,
      (((s.bay (bayOf bay.toNat)).state = .disabled ∧ r = .bayDisabled) ∨
        (((s.bay (bayOf bay.toNat)).state = .absent ∨ (s.bay (bayOf bay.toNat)).state = .arriving ∨
          (s.bay (bayOf bay.toNat)).state.isLeaving = true) ∧ r = .bayEmpty) ∨
        ((s.bay (bayOf bay.toNat)).state = .seated .locked ∧ r = .bayLocked)) →
      ∃ t, exec (.bayPowerOn x n bay priority profile 0 limit) s = .next t ∧
        slotFinished t x n { result := r, data := bayData s (bayOf bay.toNat) } ∧ onlyAnswered s t x n) ∧
    (((s.bay (bayOf bay.toNat)).state = .seated .spinup ∨ (s.bay (bayOf bay.toNat)).state = .seated .active ∨
        (s.bay (bayOf bay.toNat)).state = .seated .cooloff) →
      ∃ t, exec (.bayPowerOn x n bay priority profile 0 limit) s = .next t ∧
        t.bay (bayOf bay.toNat) =
          { s.bay (bayOf bay.toNat) with
            priority := Fin.ofNat 4 priority.toNat
            profile :=
              if profile = 0xFF then (s.bay (bayOf bay.toNat)).profile else Fin.ofNat 8 profile.toNat } ∧
        (∀ c : BayNo, c ≠ bayOf bay.toNat → t.bay c = s.bay c) ∧
        slotFinished t x n { result := .already, data := bayData s (bayOf bay.toNat) } ∧
        t = { s with
          bc := { s.bc with bays := t.bc.bays }
          oi := { s.oi with turn := otherPort x }
          xm := t.xm, pa := t.pa, pb := t.pb } ∧
        portsNotified s t ∧ untouched s t [slotRegion x n, bayRegion (bayOf bay.toNat)]) ∧
    ((s.bay (bayOf bay.toNat)).state = .seated .queued →
      ∃ t, exec (.bayPowerOn x n bay priority profile 0 limit) s = .next t ∧
        (t.bay (bayOf bay.toNat)).priority = Fin.ofNat 4 priority.toNat ∧
        (t.bay (bayOf bay.toNat)).profile =
          (if profile = 0xFF then (s.bay (bayOf bay.toNat)).profile else Fin.ofNat 8 profile.toNat) ∧
        (t.bay (bayOf bay.toNat)).link = (s.bay (bayOf bay.toNat)).link ∧
        (((t.bay (bayOf bay.toNat)).state = .seated .queued ∧
            ((s.bay (bayOf bay.toNat)).priority ≠ Fin.ofNat 4 priority.toNat →
              { bay := bayOf bay.toNat, priority := Fin.ofNat 4 priority.toNat } ∈ t.ps.queue)) ∨
          ((t.bay (bayOf bay.toNat)).state = .seated .spinup ∧ (t.bay (bayOf bay.toNat)).switch = true ∧
            ∀ e ∈ t.ps.queue, e.bay ≠ bayOf bay.toNat)) ∧
        (((s.bay (bayOf bay.toNat)).priority ≠ Fin.ofNat 4 priority.toNat ∨
            (t.bay (bayOf bay.toNat)).profile ≠ (s.bay (bayOf bay.toNat)).profile) →
          examined t (railOf s (bayOf bay.toNat))) ∧
        slotFinished t x n
          { result :=
              if (s.bay (bayOf bay.toNat)).priority = Fin.ofNat 4 priority.toNat then .already else .ok
            data := bayData t (bayOf bay.toNat) } ∧
        (∀ c : BayNo, c ≠ bayOf bay.toNat → leftOrAdmitted s t c) ∧
        onlyBaysAndRail (railOf s (bayOf bay.toNat)) { s with oi := { s.oi with turn := otherPort x } } t ∧
        untouched s t (slotRegion x n :: examinationRegions (railOf s (bayOf bay.toNat)))) ∧
    ((s.bay (bayOf bay.toNat)).state = .seated .idle →
      ∃ t, exec (.bayPowerOn x n bay priority profile 0 limit) s = .next t ∧
        (t.bay (bayOf bay.toNat)).priority = Fin.ofNat 4 priority.toNat ∧
        (t.bay (bayOf bay.toNat)).profile =
          (if profile = 0xFF then (s.bay (bayOf bay.toNat)).profile else Fin.ofNat 8 profile.toNat) ∧
        (t.bay (bayOf bay.toNat)).link = (s.bay (bayOf bay.toNat)).link ∧
        (((t.bay (bayOf bay.toNat)).state = .seated .queued ∧
            { bay := bayOf bay.toNat, priority := Fin.ofNat 4 priority.toNat } ∈ t.ps.queue) ∨
          ((t.bay (bayOf bay.toNat)).state = .seated .spinup ∧ (t.bay (bayOf bay.toNat)).switch = true ∧
            ∀ e ∈ t.ps.queue, e.bay ≠ bayOf bay.toNat)) ∧
        examined t (railOf s (bayOf bay.toNat)) ∧
        slotFinished t x n { result := .ok, data := bayData t (bayOf bay.toNat) } ∧
        (∀ c : BayNo, c ≠ bayOf bay.toNat → leftOrAdmitted s t c) ∧
        onlyBaysAndRail (railOf s (bayOf bay.toNat)) { s with oi := { s.oi with turn := otherPort x } } t ∧
        untouched s t (slotRegion x n :: examinationRegions (railOf s (bayOf bay.toNat))))

/-- BAY_POWER_ON with the wait flag, by the bay's state: a DISABLED, empty, LEAVING or LOCKED bay refuses it and changes nothing; with a
drive, BUSY when the bay has a lingering link, SPUN_UP at once when it is ACTIVE, and else the order lingers, TAKEN, with the bay's
link naming it, its tag copied and its wait limit counted from the take (R17, R19, R143, R147, R151). After
a join, a move or a change of a queued bay's profile its rail stands examined (R40).
The command stands for the post and its handling (notes/assumptions/11.md). -/
def Obligations.PowerOnWithWaitingLingers : Prop :=
  ∀ (x : Port) (n : SlotNo) (bay priority profile : Byte) (limit : BitVec 16) (s : State), readyFor s x n →
    bay.toNat < 96 → priority.toNat ≤ 3 → (profile.toNat ≤ 7 ∨ profile = 0xFF) → limit.toNat ≤ 3600 →
    (s.bay (bayOf bay.toNat)).holder ≠ some (otherPort x) →
    (∀ r : Result,
      (((s.bay (bayOf bay.toNat)).state = .disabled ∧ r = .bayDisabled) ∨
        (((s.bay (bayOf bay.toNat)).state = .absent ∨ (s.bay (bayOf bay.toNat)).state = .arriving ∨
          (s.bay (bayOf bay.toNat)).state.isLeaving = true) ∧ r = .bayEmpty) ∨
        ((s.bay (bayOf bay.toNat)).state = .seated .locked ∧ r = .bayLocked)) →
      ∃ t, exec (.bayPowerOn x n bay priority profile 1 limit) s = .next t ∧
        slotFinished t x n { result := r, data := bayData s (bayOf bay.toNat) } ∧ onlyAnswered s t x n) ∧
    ∀ h : Seated, (s.bay (bayOf bay.toNat)).state = .seated h → h ≠ .locked →
    ((s.bay (bayOf bay.toNat)).link.isSome →
      ∃ t, exec (.bayPowerOn x n bay priority profile 1 limit) s = .next t ∧
        slotFinished t x n { result := .busy, data := bayData s (bayOf bay.toNat) } ∧ onlyAnswered s t x n) ∧
    ((s.bay (bayOf bay.toNat)).link = none → h = .active →
      ∃ t, exec (.bayPowerOn x n bay priority profile 1 limit) s = .next t ∧
        slotFinished t x n { result := .spunUp, data := bayData s (bayOf bay.toNat) } ∧
        t.bay (bayOf bay.toNat) =
          { s.bay (bayOf bay.toNat) with
            priority := Fin.ofNat 4 priority.toNat
            profile :=
              if profile = 0xFF then (s.bay (bayOf bay.toNat)).profile else Fin.ofNat 8 profile.toNat } ∧
        (∀ c : BayNo, c ≠ bayOf bay.toNat → t.bay c = s.bay c) ∧
        t = { s with
          bc := { s.bc with bays := t.bc.bays }
          oi := { s.oi with turn := otherPort x }
          xm := t.xm, pa := t.pa, pb := t.pb } ∧
        portsNotified s t ∧ untouched s t [slotRegion x n, bayRegion (bayOf bay.toNat)]) ∧
    ((s.bay (bayOf bay.toNat)).link = none → h ≠ .active →
      ∃ t, exec (.bayPowerOn x n bay priority profile 1 limit) s = .next t ∧
        (t.bay (bayOf bay.toNat)).link = some (x, n) ∧
        (t.bay (bayOf bay.toNat)).priority = Fin.ofNat 4 priority.toNat ∧ slotState t x n = slotTaken ∧
        (∃ c, lingeringOf t x n = some c ∧ c.kind = kindBayPowerOn ∧ argByte c.args 4 = bay.toNat ∧
          c.tag = BitVec.ofNat 16 (leNat (Memory.readRun s.xm (slotBase x n + 2) 2)) ∧ c.takenAt = s.uptime ∧
          c.linger =
            some
              { limit := limit.toNat
                expiry := if limit.toNat = 0 then none else some (uptimeAfter s.uptime (1000 * limit.toNat)) }) ∧
        (h = .idle → (t.bay (bayOf bay.toNat)).state = .seated .queued ∨
          (t.bay (bayOf bay.toNat)).state = .seated .spinup) ∧
        ((h = .idle ∨
            (h = .queued ∧
              ((s.bay (bayOf bay.toNat)).priority ≠ Fin.ofNat 4 priority.toNat ∨
                (t.bay (bayOf bay.toNat)).profile ≠ (s.bay (bayOf bay.toNat)).profile))) →
          examined t (railOf s (bayOf bay.toNat))) ∧
        (∀ c : BayNo, c ≠ bayOf bay.toNat → leftOrAdmitted s t c) ∧
        onlyBaysAndRail (railOf s (bayOf bay.toNat)) { s with oi := { s.oi with turn := otherPort x } } t ∧
        untouched s t (slotRegion x n :: examinationRegions (railOf s (bayOf bay.toNat))))

/-- BAY_POWER_OFF by the bay's state or saved state: refusals change nothing; a queued bay leaves the queue, a powered one is turned off,
a cooling one stops cooling, each to IDLE with OK; an IDLE or LOCKED one answers ALREADY; a lingering order of the bay finishes
(R20). After a leave or a fall of the charge the rail stands examined (R40).
The command stands for the post and its handling (notes/assumptions/11.md). -/
def Obligations.PowerOffTakesTheBayToIdle : Prop :=
  ∀ (x : Port) (n : SlotNo) (bay : Byte) (s : State), readyFor s x n → bay.toNat < 96 →
    (s.bay (bayOf bay.toNat)).holder ≠ some (otherPort x) →
    (∀ r : Result,
      (((s.bay (bayOf bay.toNat)).state = .disabled ∧ r = .bayDisabled) ∨
        (((s.bay (bayOf bay.toNat)).state = .absent ∨ (s.bay (bayOf bay.toNat)).state = .arriving) ∧ r = .bayEmpty)) →
      ∃ t, exec (.bayPowerOff x n bay) s = .next t ∧
        slotFinished t x n { result := r, data := bayData s (bayOf bay.toNat) } ∧ onlyAnswered s t x n) ∧
    ∀ h : Seated, (s.bay (bayOf bay.toNat)).state.held = some h →
      ∃ t, exec (.bayPowerOff x n bay) s = .next t ∧ (t.bay (bayOf bay.toNat)).link = none ∧
        (t.bay (bayOf bay.toNat)).retries = (s.bay (bayOf bay.toNat)).retries ∧
        (t.bay (bayOf bay.toNat)).priority = (s.bay (bayOf bay.toNat)).priority ∧
        (t.bay (bayOf bay.toNat)).debounce = (s.bay (bayOf bay.toNat)).debounce ∧
        ((h = .idle ∨ h = .locked) →
          (t.bay (bayOf bay.toNat)).state = (s.bay (bayOf bay.toNat)).state ∧
          slotFinished t x n { result := .already, data := bayData t (bayOf bay.toNat) }) ∧
        ((h ≠ .idle ∧ h ≠ .locked) →
          (t.bay (bayOf bay.toNat)).state = (s.bay (bayOf bay.toNat)).state.withHeld .idle ∧
          slotFinished t x n { result := .ok, data := bayData t (bayOf bay.toNat) }) ∧
        (h.powered = true → (t.bay (bayOf bay.toNat)).switch = false ∧ t.charge (bayOf bay.toNat) = 0 ∧
          (t.bay (bayOf bay.toNat)).surgeEnd = none ∧ (t.bay (bayOf bay.toNat)).activeSince = none) ∧
        (h = .queued → ∀ e ∈ t.ps.queue, e.bay ≠ bayOf bay.toNat) ∧
        ((h = .queued ∨ (h.powered = true ∧ 0 < s.charge (bayOf bay.toNat))) →
          examined t (railOf s (bayOf bay.toNat))) ∧
        (h = .cooloff → (t.bay (bayOf bay.toNat)).coolOffEnd = none) ∧
        (∀ (y : Port) (m : SlotNo), (s.bay (bayOf bay.toNat)).link = some (y, m) → (lingeringOf s y m).isSome →
          slotState t y m = slotDone ∧ Memory.read t.xm (slotBase y m + 24) = byteOf Result.abortedOff.code ∧
          (t.port y).notice.getLsbD m.val = true) ∧
        (∀ c : BayNo, c ≠ bayOf bay.toNat → leftOrAdmitted s t c) ∧
        onlyBaysAndRail (railOf s (bayOf bay.toNat)) { s with oi := { s.oi with turn := otherPort x } } t ∧
        untouched s t
          (slotRegion x n :: examinationRegions (railOf s (bayOf bay.toNat)) ++ linkRegions (s.bay (bayOf bay.toNat)))

/-- CLEAR_BAY_FAULT puts the retry count to 0 and takes a LOCKED or COOLOFF bay, or saved state, to IDLE with OK; in any other state it
answers ALREADY, and a DISABLED bay refuses. The data holds the state after and the count before (R62).
The command stands for the post and its handling (notes/assumptions/11.md). -/
def Obligations.ClearFaultClearsTheCountAndTheLatch : Prop :=
  ∀ (x : Port) (n : SlotNo) (bay : Byte) (s : State), readyFor s x n → bay.toNat < 96 →
    (s.bay (bayOf bay.toNat)).holder ≠ some (otherPort x) →
    ((s.bay (bayOf bay.toNat)).state = .disabled →
      ∃ t, exec (.clearBayFault x n bay) s = .next t ∧
        slotFinished t x n { result := .bayDisabled, data := [0, byteOf (s.bay (bayOf bay.toNat)).retries] } ∧
        onlyAnswered s t x n) ∧
    ((s.bay (bayOf bay.toNat)).state ≠ .disabled →
      ∃ t, exec (.clearBayFault x n bay) s = .next t ∧
        t.bay (bayOf bay.toNat) =
          { s.bay (bayOf bay.toNat) with
            retries := 0, state := (t.bay (bayOf bay.toNat)).state, coolOffEnd := (t.bay (bayOf bay.toNat)).coolOffEnd,
            changed := (t.bay (bayOf bay.toNat)).changed } ∧
        (∀ c : BayNo, c ≠ bayOf bay.toNat → t.bay c = s.bay c) ∧
        (((s.bay (bayOf bay.toNat)).state.held = some .locked ∨ (s.bay (bayOf bay.toNat)).state.held = some .cooloff) →
          (t.bay (bayOf bay.toNat)).state = (s.bay (bayOf bay.toNat)).state.withHeld .idle ∧
          slotFinished t x n
            { result := .ok
              data := [byteOf (t.bay (bayOf bay.toNat)).state.code, byteOf (s.bay (bayOf bay.toNat)).retries] }) ∧
        ((s.bay (bayOf bay.toNat)).state.held = some .locked →
          eventLogged s t
            (eventFaultCleared x (bayOf bay.toNat) (s.bay (bayOf bay.toNat)).state (s.bay (bayOf bay.toNat)).retries)) ∧
        ((s.bay (bayOf bay.toNat)).state.held = some .cooloff →
          (t.bay (bayOf bay.toNat)).coolOffEnd = none ∧ t.ew = s.ew) ∧
        (((s.bay (bayOf bay.toNat)).state.held ≠ some .locked ∧ (s.bay (bayOf bay.toNat)).state.held ≠ some .cooloff) →
          (t.bay (bayOf bay.toNat)).state = (s.bay (bayOf bay.toNat)).state ∧
          slotFinished t x n
            { result := .already
              data := [byteOf (s.bay (bayOf bay.toNat)).state.code, byteOf (s.bay (bayOf bay.toNat)).retries] }) ∧
        t = { s with
          bc := { s.bc with bays := t.bc.bays }
          oi := { s.oi with turn := otherPort x }
          ew := t.ew, xm := t.xm, pa := t.pa, pb := t.pb } ∧
        portsNotified s t ∧
        untouched s t [slotRegion x n, bayRegion (bayOf bay.toNat), eventRegion s.ew.latest, eventHeaderRegion])

/-- SET_BAY_POLICY sets the policy of every bay of the range, OK or ALREADY; a DISABLED bay in the range refuses the whole with BAD_TARGET
and is named (R16), in byte 25 by the model's own choice (notes/assumptions/40.md).
The command stands for the post and its handling (notes/assumptions/11.md). -/
def Obligations.SetPolicySetsTheWholeRange : Prop :=
  ∀ (x : Port) (n : SlotNo) (first count policy : Byte) (s : State), readyFor s x n → 1 ≤ count.toNat →
    first.toNat + count.toNat ≤ 96 → policy.toNat ≤ 1 →
    (∀ b : BayNo, b ∈ bayRange first.toNat count.toNat → (s.bay b).holder = some (otherPort x) →
      (∀ c : BayNo, c ∈ bayRange first.toNat count.toNat → c < b → (s.bay c).holder ≠ some (otherPort x)) →
      refusedWith s (.setBayPolicy x n first count policy) x n { result := .heldElsewhere, data := [byteOf b.val] }) ∧
    ((∀ b : BayNo, b ∈ bayRange first.toNat count.toNat → (s.bay b).holder ≠ some (otherPort x)) →
      (∀ b : BayNo, b ∈ bayRange first.toNat count.toNat → (s.bay b).state ≠ .disabled) →
      ∃ t, exec (.setBayPolicy x n first count policy) s = .next t ∧
        (∀ b : BayNo, t.bay b =
          { s.bay b with
            policy :=
              if b ∈ bayRange first.toNat count.toNat then (if policy = 0 then .auto else .hold)
              else (s.bay b).policy }) ∧
        slotFinished t x n
          (plain
            (if ∀ b ∈ bayRange first.toNat count.toNat, (s.bay b).policy = (if policy = 0 then .auto else .hold) then
              .already
            else .ok)) ∧
        t = { s with
          bc := { s.bc with bays := t.bc.bays }
          oi := { s.oi with turn := otherPort x }
          xm := t.xm, pa := t.pa, pb := t.pb } ∧
        portsNotified s t ∧ untouched s t [slotRegion x n, bayArea]) ∧
    ∀ b : BayNo, (∀ c : BayNo, c ∈ bayRange first.toNat count.toNat → (s.bay c).holder ≠ some (otherPort x)) →
      b ∈ bayRange first.toNat count.toNat → (s.bay b).state = .disabled →
      (∀ c : BayNo, c ∈ bayRange first.toNat count.toNat → c < b → (s.bay c).state ≠ .disabled) →
      ∃ t, exec (.setBayPolicy x n first count policy) s = .next t ∧
        slotFinished t x n { result := .badTarget, data := [byteOf b.val] } ∧ onlyAnswered s t x n

/-! ### Orders that act on the tables -/

/-- SET_PROFILE stores a profile whose surge time lies in 1 to 600 and whose running draw is no greater than its surge draw, OK or
ALREADY, and refuses any other with BAD_ARGUMENT (R46), its zero data by inference (notes/assumptions/21.md). After a
change the rails with queued bays that name the profile stand examined (R40).
The command stands for the post and its handling (notes/assumptions/11.md). -/
def Obligations.SetProfileStoresAValidProfile : Prop :=
  ∀ (x : Port) (n : SlotNo) (profile : Byte) (surge time running : BitVec 16) (s : State), readyFor s x n →
    profile.toNat ≤ 7 →
    ((time.toNat < 1 ∨ 600 < time.toNat ∨ surge.toNat < running.toNat) →
      ∃ t, exec (.setProfile x n profile surge time running) s = .next t ∧
        slotFinished t x n (plain .badArgument) ∧ onlyAnswered s t x n) ∧
    ((1 ≤ time.toNat ∧ time.toNat ≤ 600 ∧ running.toNat ≤ surge.toNat) →
      ∃ t, exec (.setProfile x n profile surge time running) s = .next t ∧
        t.profile (Fin.ofNat 8 profile.toNat) =
          { surge := surge.toNat, surgeTime := time.toNat, running := running.toNat } ∧
        (∀ p : ProfileNo, p ≠ Fin.ofNat 8 profile.toNat → t.profile p = s.profile p) ∧
        slotFinished t x n
          (plain
            (if s.profile (Fin.ofNat 8 profile.toNat) =
                { surge := surge.toNat, surgeTime := time.toNat, running := running.toNat } then .already
              else .ok)) ∧
        (∀ b : BayNo, leftOrAdmitted s t b) ∧
        (t.profile (Fin.ofNat 8 profile.toNat) ≠ s.profile (Fin.ofNat 8 profile.toNat) →
          ∀ e ∈ s.ps.queue, (s.bay e.bay).profile = Fin.ofNat 8 profile.toNat → examined t (railOf s e.bay)) ∧
        onlyBaysAndPower
          { s with oi := { s.oi with turn := otherPort x }, ps := { s.ps with profiles := t.ps.profiles } } t ∧
        untouched s t
          ([slotRegion x n, profileRegion, bayArea, queueRegion, eventHeaderRegion, eventArea] ++ railRegions))

/-- SET_RAIL_LIMIT stores each limit clamped to its ceiling, the single one also to the dual one, recomputes the admit limit, and
answers with the limits used and the admit limit in force (R30, R47). A rail whose admit limit changed stands
examined (R40).
The command stands for the post and its handling (notes/assumptions/11.md). -/
def Obligations.SetRailLimitClampsAndRecomputes : Prop :=
  ∀ (x : Port) (n : SlotNo) (rail : Byte) (dual single : BitVec 16) (r : RailNo) (d i : Nat) (s : State), readyFor s x n →
    rail.toNat ≤ 3 → r = Fin.ofNat 4 rail.toNat → d = min dual.toNat (s.railDesc r).dualCeiling →
    i = min (min single.toNat (s.railDesc r).singleCeiling) d →
    ∃ t, exec (.setRailLimit x n rail dual single) s = .next t ∧ (t.rail r).dual = d ∧ (t.rail r).single = i ∧
      (t.rail r).admitLimit =
        (match s.ps.supply with
          | .both => d
          | .single => i
          | .none => 0) ∧
      (∀ q : RailNo, q ≠ r → t.rail q = s.rail q) ∧
      slotFinished t x n
        { result :=
            if d ≠ dual.toNat ∨ i ≠ single.toNat then .okClamped
            else if d = (s.rail r).dual ∧ i = (s.rail r).single then .already
            else .ok
          data := le16 d ++ le16 i ++ le16 (t.rail r).admitLimit } ∧
      (∀ b : BayNo, leftOrAdmitted s t b) ∧ ((t.rail r).admitLimit ≠ (s.rail r).admitLimit → examined t r) ∧
      onlyBaysAndPower { s with oi := { s.oi with turn := otherPort x } } t ∧
      untouched s t (slotRegion x n :: examinationRegions r)

/-- SET_INDICATION sets the port's own layer of every bay of the range, with how many changed; a pattern above 31 is refused (R125).
LOCATE turns a bay's locate on, with an end or without, or off, and answers with the locate and its end after (R129). The zero
data of a BAD_ARGUMENT by the owner is an inference (notes/assumptions/21.md).
The command stands for the post and its handling (notes/assumptions/11.md). -/
def Obligations.IndicationAndLocateOrders : Prop :=
  (∀ (x : Port) (n : SlotNo) (first count pattern : Byte) (s : State), readyFor s x n → 1 ≤ count.toNat →
     first.toNat + count.toNat ≤ 96 →
     (31 < pattern.toNat →
       ∃ t, exec (.setIndication x n first count pattern) s = .next t ∧ slotFinished t x n (plain .badArgument) ∧
         onlyAnswered s t x n) ∧
     (pattern.toNat ≤ 31 →
       ∃ t, exec (.setIndication x n first count pattern) s = .next t ∧
         (∀ b : BayNo,
           t.layer x b =
             (if b ∈ bayRange first.toNat count.toNat then Fin.ofNat 32 pattern.toNat else s.layer x b) ∧
           t.layer (otherPort x) b = s.layer (otherPort x) b) ∧
         slotFinished t x n
           { result := if ∀ b : BayNo, t.layer x b = s.layer x b then .already else .ok
             data := [byteOf ((List.finRange 96).filter fun b => t.layer x b ≠ s.layer x b).length] } ∧
         t = { s with
           ie := { s.ie with layersA := t.ie.layersA, layersB := t.ie.layersB }
           oi := { s.oi with turn := otherPort x }
           xm := t.xm, pa := t.pa, pb := t.pb } ∧
         portsNotified s t ∧ untouched s t [slotRegion x n])) ∧
  ∀ (x : Port) (n : SlotNo) (bay action : Byte) (duration : BitVec 16) (s : State), readyFor s x n → bay.toNat < 96 →
    ((1 < action.toNat ∨ (action = 1 ∧ 3600 < duration.toNat)) →
      ∃ t, exec (.locate x n bay action duration) s = .next t ∧ slotFinished t x n (plain .badArgument) ∧
        onlyAnswered s t x n) ∧
    (action = 1 → duration.toNat ≤ 3600 →
      ∃ t, exec (.locate x n bay action duration) s = .next t ∧
        t.locate (bayOf bay.toNat) =
          { on := true
            endAt := if duration.toNat = 0 then none else some (uptimeAfter s.uptime (1000 * duration.toNat)) } ∧
        slotFinished t x n
          { result :=
              if (s.locate (bayOf bay.toNat)).on = true ∧ (s.locate (bayOf bay.toNat)).endAt = none ∧ duration.toNat = 0 then
                .already
              else .ok
            data :=
              1 :: le32
                (if duration.toNat = 0 then 0 else (uptimeAfter s.uptime (1000 * duration.toNat)).toNat) } ∧
        t = { s with
          ie := { s.ie with locates := s.ie.locates.set (bayOf bay.toNat) (t.locate (bayOf bay.toNat)) }
          oi := { s.oi with turn := otherPort x }
          xm := t.xm, pa := t.pa, pb := t.pb } ∧
        portsNotified s t ∧ untouched s t [slotRegion x n]) ∧
    (action = 0 → s.locate (bayOf bay.toNat) = { on := false, endAt := none } →
      refusedWith s (.locate x n bay action duration) x n { result := .already, data := zeros 5 }) ∧
    (action = 0 → (s.locate (bayOf bay.toNat)).on = true →
      ∃ t, exec (.locate x n bay action duration) s = .next t ∧
        slotFinished t x n { result := .ok, data := zeros 5 } ∧
        t = { s with
          ie := { s.ie with locates := s.ie.locates.set (bayOf bay.toNat) { on := false, endAt := none } }
          oi := { s.oi with turn := otherPort x }
          xm := t.xm, pa := t.pa, pb := t.pb } ∧
        portsNotified s t ∧ untouched s t [slotRegion x n])

/-- LOAD_PATTERN stores valid contents as pending and answers with the effective length and the uptime at which they take effect: the first
refresh to come whose epoch time is a step boundary of the present step code. Contents that will be in force anyway answer ALREADY,
with that uptime while they are pending and 0 when they are in force; pattern 0 and values out of range are refused (R122, R123).
The uptime across a wrap of the epoch time and the zero data of a refusal are inferences (notes/assumptions/20.md and 21.md).
The command stands for the post and its handling (notes/assumptions/11.md). -/
def Obligations.LoadPatternMakesContentsPending : Prop :=
  ∀ (x : Port) (n : SlotNo) (pattern lengthAdd stepCode flags : Byte) (colours steps : Vector Byte 6) (k : PatternNo)
    (p : Pattern) (s : State), readyFor s x n → pattern.toNat ≤ 31 → k = Fin.ofNat 32 pattern.toNat →
    (pattern = 0 →
      ∃ t, exec (.loadPattern x n pattern lengthAdd stepCode flags colours steps) s = .next t ∧
        slotFinished t x n (plain .badTarget) ∧ onlyAnswered s t x n) ∧
    (pattern ≠ 0 → (16 < lengthAdd.toNat ∨ stepCode = 0 ∨ 20 < stepCode.toNat ∨ ∃ j : Fin 6, 15 < colours[j].toNat) →
      ∃ t, exec (.loadPattern x n pattern lengthAdd stepCode flags colours steps) s = .next t ∧
        slotFinished t x n (plain .badArgument) ∧ onlyAnswered s t x n) ∧
    (pattern ≠ 0 → lengthAdd.toNat ≤ 16 → 1 ≤ stepCode.toNat → stepCode.toNat ≤ 20 →
      (∀ j : Fin 6, colours[j].toNat ≤ 15) →
      p =
        { lengthAdd := lengthAdd.toNat, stepCode := stepCode.toNat, stretch := flags.getLsbD 0, blend := flags.getLsbD 1,
          colour1 := { green := Fin.ofNat 16 colours[0].toNat, amber := Fin.ofNat 16 colours[1].toNat },
          colour2 := { green := Fin.ofNat 16 colours[2].toNat, amber := Fin.ofNat 16 colours[3].toNat },
          colour3 := { green := Fin.ofNat 16 colours[4].toNat, amber := Fin.ofNat 16 colours[5].toNat },
          steps := Vector.ofFn fun i =>
            Fin.ofNat 4 ((steps.toList.getD (i.val / 4) 0).toNat / 4 ^ (i.val % 4)) } →
      (p = (s.ie.pendingPatterns[k]).getD (s.pattern k) → s.ie.pendingPatterns[k] = none →
        refusedWith s (.loadPattern x n pattern lengthAdd stepCode flags colours steps) x n
          { result := .already
            data := byteOf (if p.stretch then 2 * (8 + p.lengthAdd) else 8 + p.lengthAdd) :: zeros 4 }) ∧
      (1 ≤ (s.pattern k).stepCode → (s.pattern k).stepCode ≤ 20 →
        ∃ u : Uptime,
          (∀ j : Nat,
            ((s.ie.nextFrame - s.dl.epoch).toNat + 10 * j) % 2 ^ 32 % (50 * (s.pattern k).stepCode) = 0 →
            (∀ i : Nat, i < j →
              ((s.ie.nextFrame - s.dl.epoch).toNat + 10 * i) % 2 ^ 32 % (50 * (s.pattern k).stepCode) ≠ 0) →
            u = s.ie.nextFrame + BitVec.ofNat 32 (10 * j)) ∧
          (p = (s.ie.pendingPatterns[k]).getD (s.pattern k) → s.ie.pendingPatterns[k] ≠ none →
            refusedWith s (.loadPattern x n pattern lengthAdd stepCode flags colours steps) x n
              { result := .already
                data := byteOf (if p.stretch then 2 * (8 + p.lengthAdd) else 8 + p.lengthAdd) :: le32 u.toNat }) ∧
          (p ≠ (s.ie.pendingPatterns[k]).getD (s.pattern k) →
            ∃ t, exec (.loadPattern x n pattern lengthAdd stepCode flags colours steps) s = .next t ∧
              slotFinished t x n
                { result := .ok
                  data := byteOf (if p.stretch then 2 * (8 + p.lengthAdd) else 8 + p.lengthAdd) :: le32 u.toNat } ∧
              t = { s with
                ie := { s.ie with pendingPatterns := s.ie.pendingPatterns.set k (some p) }
                oi := { s.oi with turn := otherPort x }
                xm := t.xm, pa := t.pa, pb := t.pb } ∧
              portsNotified s t ∧ untouched s t [slotRegion x n])))

/-- SET_ZONE_CURVE replaces the zone's curve by the points of a valid curve, OK or ALREADY, and refuses any other with BAD_ARGUMENT
(R92, R93). SET_ZONE_OVERRIDE sets a zone's override with its duty, end and port, or ends it, OK or ALREADY, and refuses an
action or a duration out of range (R94, R95). The zero data of a BAD_ARGUMENT by the owner is an inference
(notes/assumptions/21.md), and byte 29 before the first period the model's own (notes/assumptions/34.md).
The command stands for the post and its handling (notes/assumptions/11.md). -/
def Obligations.ZoneOrdersSetCurvesAndOverrides : Prop :=
  (∀ (x : Port) (n : SlotNo) (zone count : Byte) (points : Vector RawPoint 6) (z : ZoneNo) (ps : List CurvePoint) (s : State),
     readyFor s x n → zone.toNat ≤ 3 → z = Fin.ofNat 4 zone.toNat →
     ps = (points.toList.take count.toNat).map (fun p => { temp := p.temp.toInt, duty := p.duty.toNat }) →
     ((count.toNat < 1 ∨ 6 < count.toNat ∨ validCurve ps = false) →
       ∃ t, exec (.setZoneCurve x n zone count points) s = .next t ∧ slotFinished t x n (plain .badArgument) ∧
         onlyAnswered s t x n) ∧
     ((1 ≤ count.toNat ∧ count.toNat ≤ 6 ∧ validCurve ps = true) →
       ∃ t, exec (.setZoneCurve x n zone count points) s = .next t ∧ t.zone z = { s.zone z with curve := ps } ∧
         (∀ y : ZoneNo, y ≠ z → t.zone y = s.zone y) ∧
         slotFinished t x n { result := if (s.zone z).curve = ps then .already else .ok, data := [count] } ∧
         t = { s with
           cc := { s.cc with zones := t.cc.zones }
           oi := { s.oi with turn := otherPort x }
           xm := t.xm, pa := t.pa, pb := t.pb } ∧
         portsNotified s t ∧ untouched s t [slotRegion x n, zoneRegion z])) ∧
  ∀ (x : Port) (n : SlotNo) (zone action duty : Byte) (duration : BitVec 16) (z : ZoneNo) (s : State), readyFor s x n →
    zone.toNat ≤ 3 → z = Fin.ofNat 4 zone.toNat →
    ((1 < action.toNat ∨ (action = 1 ∧ (duration = 0 ∨ 3600 < duration.toNat))) →
      ∃ t, exec (.setZoneOverride x n zone action duty duration) s = .next t ∧
        slotFinished t x n (plain .badArgument) ∧ onlyAnswered s t x n) ∧
    (action = 1 → 1 ≤ duration.toNat → duration.toNat ≤ 3600 →
      ∃ t, exec (.setZoneOverride x n zone action duty duration) s = .next t ∧
        t.zone z =
          { s.zone z with
            override :=
              some { duty := duty.toNat, endAt := uptimeAfter s.uptime (1000 * duration.toNat), port := x } } ∧
        (∀ y : ZoneNo, y ≠ z → t.zone y = s.zone y) ∧
        slotFinished t x n
          { result := .ok
            data := le32 (uptimeAfter s.uptime (1000 * duration.toNat)).toNat ++ [byteOf (s.zone z).duty] } ∧
        t = { s with
          cc := { s.cc with zones := t.cc.zones }
          oi := { s.oi with turn := otherPort x }
          xm := t.xm, pa := t.pa, pb := t.pb } ∧
        portsNotified s t ∧ untouched s t [slotRegion x n, zoneRegion z]) ∧
    (action = 0 →
      ∃ t, exec (.setZoneOverride x n zone action duty duration) s = .next t ∧
        t.zone z = { s.zone z with override := none } ∧ (∀ y : ZoneNo, y ≠ z → t.zone y = s.zone y) ∧
        slotFinished t x n
          { result := if (s.zone z).override.isSome then .ok else .already
            data := [0, 0, 0, 0, byteOf (s.zone z).duty] } ∧
        t = { s with
          cc := { s.cc with zones := t.cc.zones }
          oi := { s.oi with turn := otherPort x }
          xm := t.xm, pa := t.pa, pb := t.pb } ∧
        portsNotified s t ∧ untouched s t [slotRegion x n, zoneRegion z])
end

