-- ==== Sys2Proof/Laws/State.lean ====
section
/-! SUPPORT. One lemma for each field of the state and each named update: what the update leaves in the field. All are true by
unfolding, and all are for simp. -/

namespace Sys2Proof.Machine

variable (s : State)

@[simp] theorem State.setBay_uptime (b : BayNo) (v : Bay) : (s.setBay b v).uptime = s.uptime := rfl
@[simp] theorem State.setBay_dl (b : BayNo) (v : Bay) : (s.setBay b v).dl = s.dl := rfl
@[simp] theorem State.setBay_ps (b : BayNo) (v : Bay) : (s.setBay b v).ps = s.ps := rfl
@[simp] theorem State.setBay_tu (b : BayNo) (v : Bay) : (s.setBay b v).tu = s.tu := rfl
@[simp] theorem State.setBay_cc (b : BayNo) (v : Bay) : (s.setBay b v).cc = s.cc := rfl
@[simp] theorem State.setBay_fm (b : BayNo) (v : Bay) : (s.setBay b v).fm = s.fm := rfl
@[simp] theorem State.setBay_ie (b : BayNo) (v : Bay) : (s.setBay b v).ie = s.ie := rfl
@[simp] theorem State.setBay_pa (b : BayNo) (v : Bay) : (s.setBay b v).pa = s.pa := rfl
@[simp] theorem State.setBay_pb (b : BayNo) (v : Bay) : (s.setBay b v).pb = s.pb := rfl
@[simp] theorem State.setBay_oi (b : BayNo) (v : Bay) : (s.setBay b v).oi = s.oi := rfl
@[simp] theorem State.setBay_ew (b : BayNo) (v : Bay) : (s.setBay b v).ew = s.ew := rfl
@[simp] theorem State.setBay_xm (b : BayNo) (v : Bay) : (s.setBay b v).xm = s.xm := rfl
@[simp] theorem State.setBay_pending (b : BayNo) (v : Bay) : (s.setBay b v).pending = s.pending := rfl

@[simp] theorem State.setDrawer_uptime (d : DrawerNo) (v : Drawer) : (s.setDrawer d v).uptime = s.uptime := rfl
@[simp] theorem State.setDrawer_dl (d : DrawerNo) (v : Drawer) : (s.setDrawer d v).dl = s.dl := rfl
@[simp] theorem State.setDrawer_ps (d : DrawerNo) (v : Drawer) : (s.setDrawer d v).ps = s.ps := rfl
@[simp] theorem State.setDrawer_tu (d : DrawerNo) (v : Drawer) : (s.setDrawer d v).tu = s.tu := rfl
@[simp] theorem State.setDrawer_cc (d : DrawerNo) (v : Drawer) : (s.setDrawer d v).cc = s.cc := rfl
@[simp] theorem State.setDrawer_fm (d : DrawerNo) (v : Drawer) : (s.setDrawer d v).fm = s.fm := rfl
@[simp] theorem State.setDrawer_ie (d : DrawerNo) (v : Drawer) : (s.setDrawer d v).ie = s.ie := rfl
@[simp] theorem State.setDrawer_pa (d : DrawerNo) (v : Drawer) : (s.setDrawer d v).pa = s.pa := rfl
@[simp] theorem State.setDrawer_pb (d : DrawerNo) (v : Drawer) : (s.setDrawer d v).pb = s.pb := rfl
@[simp] theorem State.setDrawer_oi (d : DrawerNo) (v : Drawer) : (s.setDrawer d v).oi = s.oi := rfl
@[simp] theorem State.setDrawer_ew (d : DrawerNo) (v : Drawer) : (s.setDrawer d v).ew = s.ew := rfl
@[simp] theorem State.setDrawer_xm (d : DrawerNo) (v : Drawer) : (s.setDrawer d v).xm = s.xm := rfl
@[simp] theorem State.setDrawer_pending (d : DrawerNo) (v : Drawer) : (s.setDrawer d v).pending = s.pending := rfl

@[simp] theorem State.setRail_uptime (r : RailNo) (v : Rail) : (s.setRail r v).uptime = s.uptime := rfl
@[simp] theorem State.setRail_dl (r : RailNo) (v : Rail) : (s.setRail r v).dl = s.dl := rfl
@[simp] theorem State.setRail_bc (r : RailNo) (v : Rail) : (s.setRail r v).bc = s.bc := rfl
@[simp] theorem State.setRail_tu (r : RailNo) (v : Rail) : (s.setRail r v).tu = s.tu := rfl
@[simp] theorem State.setRail_cc (r : RailNo) (v : Rail) : (s.setRail r v).cc = s.cc := rfl
@[simp] theorem State.setRail_fm (r : RailNo) (v : Rail) : (s.setRail r v).fm = s.fm := rfl
@[simp] theorem State.setRail_ie (r : RailNo) (v : Rail) : (s.setRail r v).ie = s.ie := rfl
@[simp] theorem State.setRail_pa (r : RailNo) (v : Rail) : (s.setRail r v).pa = s.pa := rfl
@[simp] theorem State.setRail_pb (r : RailNo) (v : Rail) : (s.setRail r v).pb = s.pb := rfl
@[simp] theorem State.setRail_oi (r : RailNo) (v : Rail) : (s.setRail r v).oi = s.oi := rfl
@[simp] theorem State.setRail_ew (r : RailNo) (v : Rail) : (s.setRail r v).ew = s.ew := rfl
@[simp] theorem State.setRail_xm (r : RailNo) (v : Rail) : (s.setRail r v).xm = s.xm := rfl
@[simp] theorem State.setRail_pending (r : RailNo) (v : Rail) : (s.setRail r v).pending = s.pending := rfl

@[simp] theorem State.setCharge_uptime (b : BayNo) (v : Nat) : (s.setCharge b v).uptime = s.uptime := rfl
@[simp] theorem State.setCharge_dl (b : BayNo) (v : Nat) : (s.setCharge b v).dl = s.dl := rfl
@[simp] theorem State.setCharge_bc (b : BayNo) (v : Nat) : (s.setCharge b v).bc = s.bc := rfl
@[simp] theorem State.setCharge_tu (b : BayNo) (v : Nat) : (s.setCharge b v).tu = s.tu := rfl
@[simp] theorem State.setCharge_cc (b : BayNo) (v : Nat) : (s.setCharge b v).cc = s.cc := rfl
@[simp] theorem State.setCharge_fm (b : BayNo) (v : Nat) : (s.setCharge b v).fm = s.fm := rfl
@[simp] theorem State.setCharge_ie (b : BayNo) (v : Nat) : (s.setCharge b v).ie = s.ie := rfl
@[simp] theorem State.setCharge_pa (b : BayNo) (v : Nat) : (s.setCharge b v).pa = s.pa := rfl
@[simp] theorem State.setCharge_pb (b : BayNo) (v : Nat) : (s.setCharge b v).pb = s.pb := rfl
@[simp] theorem State.setCharge_oi (b : BayNo) (v : Nat) : (s.setCharge b v).oi = s.oi := rfl
@[simp] theorem State.setCharge_ew (b : BayNo) (v : Nat) : (s.setCharge b v).ew = s.ew := rfl
@[simp] theorem State.setCharge_xm (b : BayNo) (v : Nat) : (s.setCharge b v).xm = s.xm := rfl
@[simp] theorem State.setCharge_pending (b : BayNo) (v : Nat) : (s.setCharge b v).pending = s.pending := rfl

@[simp] theorem State.setQueue_uptime (q : List QueueEntry) : (s.setQueue q).uptime = s.uptime := rfl
@[simp] theorem State.setQueue_dl (q : List QueueEntry) : (s.setQueue q).dl = s.dl := rfl
@[simp] theorem State.setQueue_bc (q : List QueueEntry) : (s.setQueue q).bc = s.bc := rfl
@[simp] theorem State.setQueue_tu (q : List QueueEntry) : (s.setQueue q).tu = s.tu := rfl
@[simp] theorem State.setQueue_cc (q : List QueueEntry) : (s.setQueue q).cc = s.cc := rfl
@[simp] theorem State.setQueue_fm (q : List QueueEntry) : (s.setQueue q).fm = s.fm := rfl
@[simp] theorem State.setQueue_ie (q : List QueueEntry) : (s.setQueue q).ie = s.ie := rfl
@[simp] theorem State.setQueue_pa (q : List QueueEntry) : (s.setQueue q).pa = s.pa := rfl
@[simp] theorem State.setQueue_pb (q : List QueueEntry) : (s.setQueue q).pb = s.pb := rfl
@[simp] theorem State.setQueue_oi (q : List QueueEntry) : (s.setQueue q).oi = s.oi := rfl
@[simp] theorem State.setQueue_ew (q : List QueueEntry) : (s.setQueue q).ew = s.ew := rfl
@[simp] theorem State.setQueue_xm (q : List QueueEntry) : (s.setQueue q).xm = s.xm := rfl
@[simp] theorem State.setQueue_pending (q : List QueueEntry) : (s.setQueue q).pending = s.pending := rfl

@[simp] theorem State.setSensor_uptime (n : SensorNo) (v : Sensor) : (s.setSensor n v).uptime = s.uptime := rfl
@[simp] theorem State.setSensor_dl (n : SensorNo) (v : Sensor) : (s.setSensor n v).dl = s.dl := rfl
@[simp] theorem State.setSensor_bc (n : SensorNo) (v : Sensor) : (s.setSensor n v).bc = s.bc := rfl
@[simp] theorem State.setSensor_ps (n : SensorNo) (v : Sensor) : (s.setSensor n v).ps = s.ps := rfl
@[simp] theorem State.setSensor_cc (n : SensorNo) (v : Sensor) : (s.setSensor n v).cc = s.cc := rfl
@[simp] theorem State.setSensor_fm (n : SensorNo) (v : Sensor) : (s.setSensor n v).fm = s.fm := rfl
@[simp] theorem State.setSensor_ie (n : SensorNo) (v : Sensor) : (s.setSensor n v).ie = s.ie := rfl
@[simp] theorem State.setSensor_pa (n : SensorNo) (v : Sensor) : (s.setSensor n v).pa = s.pa := rfl
@[simp] theorem State.setSensor_pb (n : SensorNo) (v : Sensor) : (s.setSensor n v).pb = s.pb := rfl
@[simp] theorem State.setSensor_oi (n : SensorNo) (v : Sensor) : (s.setSensor n v).oi = s.oi := rfl
@[simp] theorem State.setSensor_ew (n : SensorNo) (v : Sensor) : (s.setSensor n v).ew = s.ew := rfl
@[simp] theorem State.setSensor_xm (n : SensorNo) (v : Sensor) : (s.setSensor n v).xm = s.xm := rfl
@[simp] theorem State.setSensor_pending (n : SensorNo) (v : Sensor) : (s.setSensor n v).pending = s.pending := rfl

@[simp] theorem State.setSense_uptime (z : ZoneNo) (v : ZoneSense) : (s.setSense z v).uptime = s.uptime := rfl
@[simp] theorem State.setSense_dl (z : ZoneNo) (v : ZoneSense) : (s.setSense z v).dl = s.dl := rfl
@[simp] theorem State.setSense_bc (z : ZoneNo) (v : ZoneSense) : (s.setSense z v).bc = s.bc := rfl
@[simp] theorem State.setSense_ps (z : ZoneNo) (v : ZoneSense) : (s.setSense z v).ps = s.ps := rfl
@[simp] theorem State.setSense_cc (z : ZoneNo) (v : ZoneSense) : (s.setSense z v).cc = s.cc := rfl
@[simp] theorem State.setSense_fm (z : ZoneNo) (v : ZoneSense) : (s.setSense z v).fm = s.fm := rfl
@[simp] theorem State.setSense_ie (z : ZoneNo) (v : ZoneSense) : (s.setSense z v).ie = s.ie := rfl
@[simp] theorem State.setSense_pa (z : ZoneNo) (v : ZoneSense) : (s.setSense z v).pa = s.pa := rfl
@[simp] theorem State.setSense_pb (z : ZoneNo) (v : ZoneSense) : (s.setSense z v).pb = s.pb := rfl
@[simp] theorem State.setSense_oi (z : ZoneNo) (v : ZoneSense) : (s.setSense z v).oi = s.oi := rfl
@[simp] theorem State.setSense_ew (z : ZoneNo) (v : ZoneSense) : (s.setSense z v).ew = s.ew := rfl
@[simp] theorem State.setSense_xm (z : ZoneNo) (v : ZoneSense) : (s.setSense z v).xm = s.xm := rfl
@[simp] theorem State.setSense_pending (z : ZoneNo) (v : ZoneSense) : (s.setSense z v).pending = s.pending := rfl

@[simp] theorem State.setReading_uptime (v : Option (SensorNo × Uptime)) : (s.setReading v).uptime = s.uptime := rfl
@[simp] theorem State.setReading_dl (v : Option (SensorNo × Uptime)) : (s.setReading v).dl = s.dl := rfl
@[simp] theorem State.setReading_bc (v : Option (SensorNo × Uptime)) : (s.setReading v).bc = s.bc := rfl
@[simp] theorem State.setReading_ps (v : Option (SensorNo × Uptime)) : (s.setReading v).ps = s.ps := rfl
@[simp] theorem State.setReading_cc (v : Option (SensorNo × Uptime)) : (s.setReading v).cc = s.cc := rfl
@[simp] theorem State.setReading_fm (v : Option (SensorNo × Uptime)) : (s.setReading v).fm = s.fm := rfl
@[simp] theorem State.setReading_ie (v : Option (SensorNo × Uptime)) : (s.setReading v).ie = s.ie := rfl
@[simp] theorem State.setReading_pa (v : Option (SensorNo × Uptime)) : (s.setReading v).pa = s.pa := rfl
@[simp] theorem State.setReading_pb (v : Option (SensorNo × Uptime)) : (s.setReading v).pb = s.pb := rfl
@[simp] theorem State.setReading_oi (v : Option (SensorNo × Uptime)) : (s.setReading v).oi = s.oi := rfl
@[simp] theorem State.setReading_ew (v : Option (SensorNo × Uptime)) : (s.setReading v).ew = s.ew := rfl
@[simp] theorem State.setReading_xm (v : Option (SensorNo × Uptime)) : (s.setReading v).xm = s.xm := rfl
@[simp] theorem State.setReading_pending (v : Option (SensorNo × Uptime)) : (s.setReading v).pending = s.pending := rfl

@[simp] theorem State.setZone_uptime (z : ZoneNo) (v : Zone) : (s.setZone z v).uptime = s.uptime := rfl
@[simp] theorem State.setZone_dl (z : ZoneNo) (v : Zone) : (s.setZone z v).dl = s.dl := rfl
@[simp] theorem State.setZone_bc (z : ZoneNo) (v : Zone) : (s.setZone z v).bc = s.bc := rfl
@[simp] theorem State.setZone_ps (z : ZoneNo) (v : Zone) : (s.setZone z v).ps = s.ps := rfl
@[simp] theorem State.setZone_tu (z : ZoneNo) (v : Zone) : (s.setZone z v).tu = s.tu := rfl
@[simp] theorem State.setZone_fm (z : ZoneNo) (v : Zone) : (s.setZone z v).fm = s.fm := rfl
@[simp] theorem State.setZone_ie (z : ZoneNo) (v : Zone) : (s.setZone z v).ie = s.ie := rfl
@[simp] theorem State.setZone_pa (z : ZoneNo) (v : Zone) : (s.setZone z v).pa = s.pa := rfl
@[simp] theorem State.setZone_pb (z : ZoneNo) (v : Zone) : (s.setZone z v).pb = s.pb := rfl
@[simp] theorem State.setZone_oi (z : ZoneNo) (v : Zone) : (s.setZone z v).oi = s.oi := rfl
@[simp] theorem State.setZone_ew (z : ZoneNo) (v : Zone) : (s.setZone z v).ew = s.ew := rfl
@[simp] theorem State.setZone_xm (z : ZoneNo) (v : Zone) : (s.setZone z v).xm = s.xm := rfl
@[simp] theorem State.setZone_pending (z : ZoneNo) (v : Zone) : (s.setZone z v).pending = s.pending := rfl

@[simp] theorem State.setFan_uptime (f : FanNo) (v : Fan) : (s.setFan f v).uptime = s.uptime := rfl
@[simp] theorem State.setFan_dl (f : FanNo) (v : Fan) : (s.setFan f v).dl = s.dl := rfl
@[simp] theorem State.setFan_bc (f : FanNo) (v : Fan) : (s.setFan f v).bc = s.bc := rfl
@[simp] theorem State.setFan_ps (f : FanNo) (v : Fan) : (s.setFan f v).ps = s.ps := rfl
@[simp] theorem State.setFan_tu (f : FanNo) (v : Fan) : (s.setFan f v).tu = s.tu := rfl
@[simp] theorem State.setFan_cc (f : FanNo) (v : Fan) : (s.setFan f v).cc = s.cc := rfl
@[simp] theorem State.setFan_ie (f : FanNo) (v : Fan) : (s.setFan f v).ie = s.ie := rfl
@[simp] theorem State.setFan_pa (f : FanNo) (v : Fan) : (s.setFan f v).pa = s.pa := rfl
@[simp] theorem State.setFan_pb (f : FanNo) (v : Fan) : (s.setFan f v).pb = s.pb := rfl
@[simp] theorem State.setFan_oi (f : FanNo) (v : Fan) : (s.setFan f v).oi = s.oi := rfl
@[simp] theorem State.setFan_ew (f : FanNo) (v : Fan) : (s.setFan f v).ew = s.ew := rfl
@[simp] theorem State.setFan_xm (f : FanNo) (v : Fan) : (s.setFan f v).xm = s.xm := rfl
@[simp] theorem State.setFan_pending (f : FanNo) (v : Fan) : (s.setFan f v).pending = s.pending := rfl

@[simp] theorem State.setContexts_uptime (cs : List Context) : (s.setContexts cs).uptime = s.uptime := rfl
@[simp] theorem State.setContexts_dl (cs : List Context) : (s.setContexts cs).dl = s.dl := rfl
@[simp] theorem State.setContexts_bc (cs : List Context) : (s.setContexts cs).bc = s.bc := rfl
@[simp] theorem State.setContexts_ps (cs : List Context) : (s.setContexts cs).ps = s.ps := rfl
@[simp] theorem State.setContexts_tu (cs : List Context) : (s.setContexts cs).tu = s.tu := rfl
@[simp] theorem State.setContexts_cc (cs : List Context) : (s.setContexts cs).cc = s.cc := rfl
@[simp] theorem State.setContexts_fm (cs : List Context) : (s.setContexts cs).fm = s.fm := rfl
@[simp] theorem State.setContexts_ie (cs : List Context) : (s.setContexts cs).ie = s.ie := rfl
@[simp] theorem State.setContexts_pa (cs : List Context) : (s.setContexts cs).pa = s.pa := rfl
@[simp] theorem State.setContexts_pb (cs : List Context) : (s.setContexts cs).pb = s.pb := rfl
@[simp] theorem State.setContexts_ew (cs : List Context) : (s.setContexts cs).ew = s.ew := rfl
@[simp] theorem State.setContexts_xm (cs : List Context) : (s.setContexts cs).xm = s.xm := rfl
@[simp] theorem State.setContexts_pending (cs : List Context) : (s.setContexts cs).pending = s.pending := rfl

@[simp] theorem State.store_uptime (a : Nat) (bs : List Byte) : (s.store a bs).uptime = s.uptime := rfl
@[simp] theorem State.store_dl (a : Nat) (bs : List Byte) : (s.store a bs).dl = s.dl := rfl
@[simp] theorem State.store_bc (a : Nat) (bs : List Byte) : (s.store a bs).bc = s.bc := rfl
@[simp] theorem State.store_ps (a : Nat) (bs : List Byte) : (s.store a bs).ps = s.ps := rfl
@[simp] theorem State.store_tu (a : Nat) (bs : List Byte) : (s.store a bs).tu = s.tu := rfl
@[simp] theorem State.store_cc (a : Nat) (bs : List Byte) : (s.store a bs).cc = s.cc := rfl
@[simp] theorem State.store_fm (a : Nat) (bs : List Byte) : (s.store a bs).fm = s.fm := rfl
@[simp] theorem State.store_ie (a : Nat) (bs : List Byte) : (s.store a bs).ie = s.ie := rfl
@[simp] theorem State.store_pa (a : Nat) (bs : List Byte) : (s.store a bs).pa = s.pa := rfl
@[simp] theorem State.store_pb (a : Nat) (bs : List Byte) : (s.store a bs).pb = s.pb := rfl
@[simp] theorem State.store_oi (a : Nat) (bs : List Byte) : (s.store a bs).oi = s.oi := rfl
@[simp] theorem State.store_ew (a : Nat) (bs : List Byte) : (s.store a bs).ew = s.ew := rfl
@[simp] theorem State.store_pending (a : Nat) (bs : List Byte) : (s.store a bs).pending = s.pending := rfl

@[simp] theorem State.setPort_uptime (x : Port) (v : PortUnit) : (s.setPort x v).uptime = s.uptime := by cases x <;> rfl
@[simp] theorem State.setPort_dl (x : Port) (v : PortUnit) : (s.setPort x v).dl = s.dl := by cases x <;> rfl
@[simp] theorem State.setPort_bc (x : Port) (v : PortUnit) : (s.setPort x v).bc = s.bc := by cases x <;> rfl
@[simp] theorem State.setPort_ps (x : Port) (v : PortUnit) : (s.setPort x v).ps = s.ps := by cases x <;> rfl
@[simp] theorem State.setPort_tu (x : Port) (v : PortUnit) : (s.setPort x v).tu = s.tu := by cases x <;> rfl
@[simp] theorem State.setPort_cc (x : Port) (v : PortUnit) : (s.setPort x v).cc = s.cc := by cases x <;> rfl
@[simp] theorem State.setPort_fm (x : Port) (v : PortUnit) : (s.setPort x v).fm = s.fm := by cases x <;> rfl
@[simp] theorem State.setPort_ie (x : Port) (v : PortUnit) : (s.setPort x v).ie = s.ie := by cases x <;> rfl
@[simp] theorem State.setPort_oi (x : Port) (v : PortUnit) : (s.setPort x v).oi = s.oi := by cases x <;> rfl
@[simp] theorem State.setPort_ew (x : Port) (v : PortUnit) : (s.setPort x v).ew = s.ew := by cases x <;> rfl
@[simp] theorem State.setPort_xm (x : Port) (v : PortUnit) : (s.setPort x v).xm = s.xm := by cases x <;> rfl
@[simp] theorem State.setPort_pending (x : Port) (v : PortUnit) : (s.setPort x v).pending = s.pending := by cases x <;> rfl

/-! ### The parts of a block that an update leaves -/

@[simp] theorem State.setBay_bc_drawers (b : BayNo) (v : Bay) : (s.setBay b v).bc.drawers = s.bc.drawers := rfl
@[simp] theorem State.setBay_bc_enables (b : BayNo) (v : Bay) : (s.setBay b v).bc.enables = s.bc.enables := rfl
@[simp] theorem State.setBay_bc_chain (b : BayNo) (v : Bay) : (s.setBay b v).bc.chain = s.bc.chain := rfl
@[simp] theorem State.setDrawer_bc_bays (d : DrawerNo) (v : Drawer) : (s.setDrawer d v).bc.bays = s.bc.bays := rfl
@[simp] theorem State.setDrawer_bc_enables (d : DrawerNo) (v : Drawer) : (s.setDrawer d v).bc.enables = s.bc.enables := rfl
@[simp] theorem State.setDrawer_bc_chain (d : DrawerNo) (v : Drawer) : (s.setDrawer d v).bc.chain = s.bc.chain := rfl
@[simp] theorem State.setRail_ps_charges (r : RailNo) (v : Rail) : (s.setRail r v).ps.charges = s.ps.charges := rfl
@[simp] theorem State.setRail_ps_lines (r : RailNo) (v : Rail) : (s.setRail r v).ps.lines = s.ps.lines := rfl
@[simp] theorem State.setRail_ps_supply (r : RailNo) (v : Rail) : (s.setRail r v).ps.supply = s.ps.supply := rfl
@[simp] theorem State.setRail_ps_queue (r : RailNo) (v : Rail) : (s.setRail r v).ps.queue = s.ps.queue := rfl
@[simp] theorem State.setRail_ps_profiles (r : RailNo) (v : Rail) : (s.setRail r v).ps.profiles = s.ps.profiles := rfl
@[simp] theorem State.setCharge_ps_rails (b : BayNo) (v : Nat) : (s.setCharge b v).ps.rails = s.ps.rails := rfl
@[simp] theorem State.setCharge_ps_lines (b : BayNo) (v : Nat) : (s.setCharge b v).ps.lines = s.ps.lines := rfl
@[simp] theorem State.setCharge_ps_supply (b : BayNo) (v : Nat) : (s.setCharge b v).ps.supply = s.ps.supply := rfl
@[simp] theorem State.setCharge_ps_queue (b : BayNo) (v : Nat) : (s.setCharge b v).ps.queue = s.ps.queue := rfl
@[simp] theorem State.setCharge_ps_profiles (b : BayNo) (v : Nat) : (s.setCharge b v).ps.profiles = s.ps.profiles := rfl
@[simp] theorem State.setQueue_ps_rails (q : List QueueEntry) : (s.setQueue q).ps.rails = s.ps.rails := rfl
@[simp] theorem State.setQueue_ps_charges (q : List QueueEntry) : (s.setQueue q).ps.charges = s.ps.charges := rfl
@[simp] theorem State.setQueue_ps_lines (q : List QueueEntry) : (s.setQueue q).ps.lines = s.ps.lines := rfl
@[simp] theorem State.setQueue_ps_supply (q : List QueueEntry) : (s.setQueue q).ps.supply = s.ps.supply := rfl
@[simp] theorem State.setQueue_ps_profiles (q : List QueueEntry) : (s.setQueue q).ps.profiles = s.ps.profiles := rfl
@[simp] theorem State.setSensor_tu_reportsA (n : SensorNo) (v : Sensor) : (s.setSensor n v).tu.reportsA = s.tu.reportsA := rfl
@[simp] theorem State.setSensor_tu_reportsB (n : SensorNo) (v : Sensor) : (s.setSensor n v).tu.reportsB = s.tu.reportsB := rfl
@[simp] theorem State.setSensor_tu_zones (n : SensorNo) (v : Sensor) : (s.setSensor n v).tu.zones = s.tu.zones := rfl
@[simp] theorem State.setSensor_tu_reading (n : SensorNo) (v : Sensor) : (s.setSensor n v).tu.reading = s.tu.reading := rfl
@[simp] theorem State.setSensor_tu_nextRound (n : SensorNo) (v : Sensor) : (s.setSensor n v).tu.nextRound = s.tu.nextRound := rfl
@[simp] theorem State.setSense_tu_sensors (z : ZoneNo) (v : ZoneSense) : (s.setSense z v).tu.sensors = s.tu.sensors := rfl
@[simp] theorem State.setSense_tu_reportsA (z : ZoneNo) (v : ZoneSense) : (s.setSense z v).tu.reportsA = s.tu.reportsA := rfl
@[simp] theorem State.setSense_tu_reportsB (z : ZoneNo) (v : ZoneSense) : (s.setSense z v).tu.reportsB = s.tu.reportsB := rfl
@[simp] theorem State.setSense_tu_reading (z : ZoneNo) (v : ZoneSense) : (s.setSense z v).tu.reading = s.tu.reading := rfl
@[simp] theorem State.setSense_tu_nextRound (z : ZoneNo) (v : ZoneSense) : (s.setSense z v).tu.nextRound = s.tu.nextRound := rfl
@[simp] theorem State.setReading_tu_sensors (v : Option (SensorNo × Uptime)) : (s.setReading v).tu.sensors = s.tu.sensors := rfl
@[simp] theorem State.setReading_tu_reportsA (v : Option (SensorNo × Uptime)) : (s.setReading v).tu.reportsA = s.tu.reportsA := rfl
@[simp] theorem State.setReading_tu_reportsB (v : Option (SensorNo × Uptime)) : (s.setReading v).tu.reportsB = s.tu.reportsB := rfl
@[simp] theorem State.setReading_tu_zones (v : Option (SensorNo × Uptime)) : (s.setReading v).tu.zones = s.tu.zones := rfl
@[simp] theorem State.setReading_tu_nextRound (v : Option (SensorNo × Uptime)) : (s.setReading v).tu.nextRound = s.tu.nextRound := rfl
@[simp] theorem State.setZone_cc_pwm (z : ZoneNo) (v : Zone) : (s.setZone z v).cc.pwm = s.cc.pwm := rfl
@[simp] theorem State.setZone_cc_nextPeriod (z : ZoneNo) (v : Zone) : (s.setZone z v).cc.nextPeriod = s.cc.nextPeriod := rfl
@[simp] theorem State.setFan_fm_nextEvaluation (f : FanNo) (v : Fan) : (s.setFan f v).fm.nextEvaluation = s.fm.nextEvaluation := rfl
@[simp] theorem State.setContexts_oi_turn (cs : List Context) : (s.setContexts cs).oi.turn = s.oi.turn := rfl
@[simp] theorem State.setQueue_ps_queue (q : List QueueEntry) : (s.setQueue q).ps.queue = q := rfl
@[simp] theorem State.setContexts_oi_contexts (cs : List Context) : (s.setContexts cs).oi.contexts = cs := rfl
@[simp] theorem State.setReading_tu_reading (v : Option (SensorNo × Uptime)) : (s.setReading v).tu.reading = v := rfl
@[simp] theorem State.store_xm (a : Nat) (bs : List Byte) : (s.store a bs).xm = Memory.write s.xm a bs := rfl

/-! ### What an accessor reads after an update -/

theorem State.bay_setBay (j k : BayNo) (v : Bay) : (s.setBay j v).bay k = if j = k then v else s.bay k := by
  simp [State.setBay, State.bay, Vector.getElem_set, Fin.val_inj]
@[simp] theorem State.bay_setBay_same (k : BayNo) (v : Bay) : (s.setBay k v).bay k = v := by simp [State.bay_setBay]
theorem State.bay_setBay_ne {j k : BayNo} (h : j ≠ k) (v : Bay) : (s.setBay j v).bay k = s.bay k := by
  simp [State.bay_setBay, h]
@[simp] theorem State.bay_setDrawer (d : DrawerNo) (v : Drawer) (k : BayNo) : (s.setDrawer d v).bay k = s.bay k := rfl
@[simp] theorem State.bay_setRail (r : RailNo) (v : Rail) (k : BayNo) : (s.setRail r v).bay k = s.bay k := rfl
@[simp] theorem State.bay_setCharge (b : BayNo) (v : Nat) (k : BayNo) : (s.setCharge b v).bay k = s.bay k := rfl
@[simp] theorem State.bay_setQueue (q : List QueueEntry) (k : BayNo) : (s.setQueue q).bay k = s.bay k := rfl
@[simp] theorem State.bay_setSensor (n : SensorNo) (v : Sensor) (k : BayNo) : (s.setSensor n v).bay k = s.bay k := rfl
@[simp] theorem State.bay_setSense (z : ZoneNo) (v : ZoneSense) (k : BayNo) : (s.setSense z v).bay k = s.bay k := rfl
@[simp] theorem State.bay_setReading (v : Option (SensorNo × Uptime)) (k : BayNo) : (s.setReading v).bay k = s.bay k := rfl
@[simp] theorem State.bay_setZone (z : ZoneNo) (v : Zone) (k : BayNo) : (s.setZone z v).bay k = s.bay k := rfl
@[simp] theorem State.bay_setFan (f : FanNo) (v : Fan) (k : BayNo) : (s.setFan f v).bay k = s.bay k := rfl
@[simp] theorem State.bay_setContexts (cs : List Context) (k : BayNo) : (s.setContexts cs).bay k = s.bay k := rfl
@[simp] theorem State.bay_store (a : Nat) (bs : List Byte) (k : BayNo) : (s.store a bs).bay k = s.bay k := rfl
@[simp] theorem State.bay_setPort (x : Port) (v : PortUnit) (k : BayNo) : (s.setPort x v).bay k = s.bay k := by cases x <;> rfl

theorem State.drawer_setDrawer (j k : DrawerNo) (v : Drawer) : (s.setDrawer j v).drawer k = if j = k then v else s.drawer k := by
  simp [State.setDrawer, State.drawer, Vector.getElem_set, Fin.val_inj]
@[simp] theorem State.drawer_setDrawer_same (k : DrawerNo) (v : Drawer) : (s.setDrawer k v).drawer k = v := by simp [State.drawer_setDrawer]
theorem State.drawer_setDrawer_ne {j k : DrawerNo} (h : j ≠ k) (v : Drawer) : (s.setDrawer j v).drawer k = s.drawer k := by
  simp [State.drawer_setDrawer, h]
@[simp] theorem State.drawer_setBay (b : BayNo) (v : Bay) (k : DrawerNo) : (s.setBay b v).drawer k = s.drawer k := rfl
@[simp] theorem State.drawer_setRail (r : RailNo) (v : Rail) (k : DrawerNo) : (s.setRail r v).drawer k = s.drawer k := rfl
@[simp] theorem State.drawer_setCharge (b : BayNo) (v : Nat) (k : DrawerNo) : (s.setCharge b v).drawer k = s.drawer k := rfl
@[simp] theorem State.drawer_setQueue (q : List QueueEntry) (k : DrawerNo) : (s.setQueue q).drawer k = s.drawer k := rfl
@[simp] theorem State.drawer_setSensor (n : SensorNo) (v : Sensor) (k : DrawerNo) : (s.setSensor n v).drawer k = s.drawer k := rfl
@[simp] theorem State.drawer_setSense (z : ZoneNo) (v : ZoneSense) (k : DrawerNo) : (s.setSense z v).drawer k = s.drawer k := rfl
@[simp] theorem State.drawer_setReading (v : Option (SensorNo × Uptime)) (k : DrawerNo) : (s.setReading v).drawer k = s.drawer k := rfl
@[simp] theorem State.drawer_setZone (z : ZoneNo) (v : Zone) (k : DrawerNo) : (s.setZone z v).drawer k = s.drawer k := rfl
@[simp] theorem State.drawer_setFan (f : FanNo) (v : Fan) (k : DrawerNo) : (s.setFan f v).drawer k = s.drawer k := rfl
@[simp] theorem State.drawer_setContexts (cs : List Context) (k : DrawerNo) : (s.setContexts cs).drawer k = s.drawer k := rfl
@[simp] theorem State.drawer_store (a : Nat) (bs : List Byte) (k : DrawerNo) : (s.store a bs).drawer k = s.drawer k := rfl
@[simp] theorem State.drawer_setPort (x : Port) (v : PortUnit) (k : DrawerNo) : (s.setPort x v).drawer k = s.drawer k := by cases x <;> rfl

theorem State.rail_setRail (j k : RailNo) (v : Rail) : (s.setRail j v).rail k = if j = k then v else s.rail k := by
  simp [State.setRail, State.rail, Vector.getElem_set, Fin.val_inj]
@[simp] theorem State.rail_setRail_same (k : RailNo) (v : Rail) : (s.setRail k v).rail k = v := by simp [State.rail_setRail]
theorem State.rail_setRail_ne {j k : RailNo} (h : j ≠ k) (v : Rail) : (s.setRail j v).rail k = s.rail k := by
  simp [State.rail_setRail, h]
@[simp] theorem State.rail_setBay (b : BayNo) (v : Bay) (k : RailNo) : (s.setBay b v).rail k = s.rail k := rfl
@[simp] theorem State.rail_setDrawer (d : DrawerNo) (v : Drawer) (k : RailNo) : (s.setDrawer d v).rail k = s.rail k := rfl
@[simp] theorem State.rail_setCharge (b : BayNo) (v : Nat) (k : RailNo) : (s.setCharge b v).rail k = s.rail k := rfl
@[simp] theorem State.rail_setQueue (q : List QueueEntry) (k : RailNo) : (s.setQueue q).rail k = s.rail k := rfl
@[simp] theorem State.rail_setSensor (n : SensorNo) (v : Sensor) (k : RailNo) : (s.setSensor n v).rail k = s.rail k := rfl
@[simp] theorem State.rail_setSense (z : ZoneNo) (v : ZoneSense) (k : RailNo) : (s.setSense z v).rail k = s.rail k := rfl
@[simp] theorem State.rail_setReading (v : Option (SensorNo × Uptime)) (k : RailNo) : (s.setReading v).rail k = s.rail k := rfl
@[simp] theorem State.rail_setZone (z : ZoneNo) (v : Zone) (k : RailNo) : (s.setZone z v).rail k = s.rail k := rfl
@[simp] theorem State.rail_setFan (f : FanNo) (v : Fan) (k : RailNo) : (s.setFan f v).rail k = s.rail k := rfl
@[simp] theorem State.rail_setContexts (cs : List Context) (k : RailNo) : (s.setContexts cs).rail k = s.rail k := rfl
@[simp] theorem State.rail_store (a : Nat) (bs : List Byte) (k : RailNo) : (s.store a bs).rail k = s.rail k := rfl
@[simp] theorem State.rail_setPort (x : Port) (v : PortUnit) (k : RailNo) : (s.setPort x v).rail k = s.rail k := by cases x <;> rfl

theorem State.charge_setCharge (j k : BayNo) (v : Nat) : (s.setCharge j v).charge k = if j = k then v else s.charge k := by
  simp [State.setCharge, State.charge, Vector.getElem_set, Fin.val_inj]
@[simp] theorem State.charge_setCharge_same (k : BayNo) (v : Nat) : (s.setCharge k v).charge k = v := by simp [State.charge_setCharge]
theorem State.charge_setCharge_ne {j k : BayNo} (h : j ≠ k) (v : Nat) : (s.setCharge j v).charge k = s.charge k := by
  simp [State.charge_setCharge, h]
@[simp] theorem State.charge_setBay (b : BayNo) (v : Bay) (k : BayNo) : (s.setBay b v).charge k = s.charge k := rfl
@[simp] theorem State.charge_setDrawer (d : DrawerNo) (v : Drawer) (k : BayNo) : (s.setDrawer d v).charge k = s.charge k := rfl
@[simp] theorem State.charge_setRail (r : RailNo) (v : Rail) (k : BayNo) : (s.setRail r v).charge k = s.charge k := rfl
@[simp] theorem State.charge_setQueue (q : List QueueEntry) (k : BayNo) : (s.setQueue q).charge k = s.charge k := rfl
@[simp] theorem State.charge_setSensor (n : SensorNo) (v : Sensor) (k : BayNo) : (s.setSensor n v).charge k = s.charge k := rfl
@[simp] theorem State.charge_setSense (z : ZoneNo) (v : ZoneSense) (k : BayNo) : (s.setSense z v).charge k = s.charge k := rfl
@[simp] theorem State.charge_setReading (v : Option (SensorNo × Uptime)) (k : BayNo) : (s.setReading v).charge k = s.charge k := rfl
@[simp] theorem State.charge_setZone (z : ZoneNo) (v : Zone) (k : BayNo) : (s.setZone z v).charge k = s.charge k := rfl
@[simp] theorem State.charge_setFan (f : FanNo) (v : Fan) (k : BayNo) : (s.setFan f v).charge k = s.charge k := rfl
@[simp] theorem State.charge_setContexts (cs : List Context) (k : BayNo) : (s.setContexts cs).charge k = s.charge k := rfl
@[simp] theorem State.charge_store (a : Nat) (bs : List Byte) (k : BayNo) : (s.store a bs).charge k = s.charge k := rfl
@[simp] theorem State.charge_setPort (x : Port) (v : PortUnit) (k : BayNo) : (s.setPort x v).charge k = s.charge k := by cases x <;> rfl

theorem State.sensor_setSensor (j k : SensorNo) (v : Sensor) : (s.setSensor j v).sensor k = if j = k then v else s.sensor k := by
  simp [State.setSensor, State.sensor, Vector.getElem_set, Fin.val_inj]
@[simp] theorem State.sensor_setSensor_same (k : SensorNo) (v : Sensor) : (s.setSensor k v).sensor k = v := by simp [State.sensor_setSensor]
theorem State.sensor_setSensor_ne {j k : SensorNo} (h : j ≠ k) (v : Sensor) : (s.setSensor j v).sensor k = s.sensor k := by
  simp [State.sensor_setSensor, h]
@[simp] theorem State.sensor_setBay (b : BayNo) (v : Bay) (k : SensorNo) : (s.setBay b v).sensor k = s.sensor k := rfl
@[simp] theorem State.sensor_setDrawer (d : DrawerNo) (v : Drawer) (k : SensorNo) : (s.setDrawer d v).sensor k = s.sensor k := rfl
@[simp] theorem State.sensor_setRail (r : RailNo) (v : Rail) (k : SensorNo) : (s.setRail r v).sensor k = s.sensor k := rfl
@[simp] theorem State.sensor_setCharge (b : BayNo) (v : Nat) (k : SensorNo) : (s.setCharge b v).sensor k = s.sensor k := rfl
@[simp] theorem State.sensor_setQueue (q : List QueueEntry) (k : SensorNo) : (s.setQueue q).sensor k = s.sensor k := rfl
@[simp] theorem State.sensor_setSense (z : ZoneNo) (v : ZoneSense) (k : SensorNo) : (s.setSense z v).sensor k = s.sensor k := rfl
@[simp] theorem State.sensor_setReading (v : Option (SensorNo × Uptime)) (k : SensorNo) : (s.setReading v).sensor k = s.sensor k := rfl
@[simp] theorem State.sensor_setZone (z : ZoneNo) (v : Zone) (k : SensorNo) : (s.setZone z v).sensor k = s.sensor k := rfl
@[simp] theorem State.sensor_setFan (f : FanNo) (v : Fan) (k : SensorNo) : (s.setFan f v).sensor k = s.sensor k := rfl
@[simp] theorem State.sensor_setContexts (cs : List Context) (k : SensorNo) : (s.setContexts cs).sensor k = s.sensor k := rfl
@[simp] theorem State.sensor_store (a : Nat) (bs : List Byte) (k : SensorNo) : (s.store a bs).sensor k = s.sensor k := rfl
@[simp] theorem State.sensor_setPort (x : Port) (v : PortUnit) (k : SensorNo) : (s.setPort x v).sensor k = s.sensor k := by cases x <;> rfl

theorem State.sense_setSense (j k : ZoneNo) (v : ZoneSense) : (s.setSense j v).sense k = if j = k then v else s.sense k := by
  simp [State.setSense, State.sense, Vector.getElem_set, Fin.val_inj]
@[simp] theorem State.sense_setSense_same (k : ZoneNo) (v : ZoneSense) : (s.setSense k v).sense k = v := by simp [State.sense_setSense]
theorem State.sense_setSense_ne {j k : ZoneNo} (h : j ≠ k) (v : ZoneSense) : (s.setSense j v).sense k = s.sense k := by
  simp [State.sense_setSense, h]
@[simp] theorem State.sense_setBay (b : BayNo) (v : Bay) (k : ZoneNo) : (s.setBay b v).sense k = s.sense k := rfl
@[simp] theorem State.sense_setDrawer (d : DrawerNo) (v : Drawer) (k : ZoneNo) : (s.setDrawer d v).sense k = s.sense k := rfl
@[simp] theorem State.sense_setRail (r : RailNo) (v : Rail) (k : ZoneNo) : (s.setRail r v).sense k = s.sense k := rfl
@[simp] theorem State.sense_setCharge (b : BayNo) (v : Nat) (k : ZoneNo) : (s.setCharge b v).sense k = s.sense k := rfl
@[simp] theorem State.sense_setQueue (q : List QueueEntry) (k : ZoneNo) : (s.setQueue q).sense k = s.sense k := rfl
@[simp] theorem State.sense_setSensor (n : SensorNo) (v : Sensor) (k : ZoneNo) : (s.setSensor n v).sense k = s.sense k := rfl
@[simp] theorem State.sense_setReading (v : Option (SensorNo × Uptime)) (k : ZoneNo) : (s.setReading v).sense k = s.sense k := rfl
@[simp] theorem State.sense_setZone (z : ZoneNo) (v : Zone) (k : ZoneNo) : (s.setZone z v).sense k = s.sense k := rfl
@[simp] theorem State.sense_setFan (f : FanNo) (v : Fan) (k : ZoneNo) : (s.setFan f v).sense k = s.sense k := rfl
@[simp] theorem State.sense_setContexts (cs : List Context) (k : ZoneNo) : (s.setContexts cs).sense k = s.sense k := rfl
@[simp] theorem State.sense_store (a : Nat) (bs : List Byte) (k : ZoneNo) : (s.store a bs).sense k = s.sense k := rfl
@[simp] theorem State.sense_setPort (x : Port) (v : PortUnit) (k : ZoneNo) : (s.setPort x v).sense k = s.sense k := by cases x <;> rfl

theorem State.zone_setZone (j k : ZoneNo) (v : Zone) : (s.setZone j v).zone k = if j = k then v else s.zone k := by
  simp [State.setZone, State.zone, Vector.getElem_set, Fin.val_inj]
@[simp] theorem State.zone_setZone_same (k : ZoneNo) (v : Zone) : (s.setZone k v).zone k = v := by simp [State.zone_setZone]
theorem State.zone_setZone_ne {j k : ZoneNo} (h : j ≠ k) (v : Zone) : (s.setZone j v).zone k = s.zone k := by
  simp [State.zone_setZone, h]
@[simp] theorem State.zone_setBay (b : BayNo) (v : Bay) (k : ZoneNo) : (s.setBay b v).zone k = s.zone k := rfl
@[simp] theorem State.zone_setDrawer (d : DrawerNo) (v : Drawer) (k : ZoneNo) : (s.setDrawer d v).zone k = s.zone k := rfl
@[simp] theorem State.zone_setRail (r : RailNo) (v : Rail) (k : ZoneNo) : (s.setRail r v).zone k = s.zone k := rfl
@[simp] theorem State.zone_setCharge (b : BayNo) (v : Nat) (k : ZoneNo) : (s.setCharge b v).zone k = s.zone k := rfl
@[simp] theorem State.zone_setQueue (q : List QueueEntry) (k : ZoneNo) : (s.setQueue q).zone k = s.zone k := rfl
@[simp] theorem State.zone_setSensor (n : SensorNo) (v : Sensor) (k : ZoneNo) : (s.setSensor n v).zone k = s.zone k := rfl
@[simp] theorem State.zone_setSense (z : ZoneNo) (v : ZoneSense) (k : ZoneNo) : (s.setSense z v).zone k = s.zone k := rfl
@[simp] theorem State.zone_setReading (v : Option (SensorNo × Uptime)) (k : ZoneNo) : (s.setReading v).zone k = s.zone k := rfl
@[simp] theorem State.zone_setFan (f : FanNo) (v : Fan) (k : ZoneNo) : (s.setFan f v).zone k = s.zone k := rfl
@[simp] theorem State.zone_setContexts (cs : List Context) (k : ZoneNo) : (s.setContexts cs).zone k = s.zone k := rfl
@[simp] theorem State.zone_store (a : Nat) (bs : List Byte) (k : ZoneNo) : (s.store a bs).zone k = s.zone k := rfl
@[simp] theorem State.zone_setPort (x : Port) (v : PortUnit) (k : ZoneNo) : (s.setPort x v).zone k = s.zone k := by cases x <;> rfl

theorem State.fan_setFan (j k : FanNo) (v : Fan) : (s.setFan j v).fan k = if j = k then v else s.fan k := by
  simp [State.setFan, State.fan, Vector.getElem_set, Fin.val_inj]
@[simp] theorem State.fan_setFan_same (k : FanNo) (v : Fan) : (s.setFan k v).fan k = v := by simp [State.fan_setFan]
theorem State.fan_setFan_ne {j k : FanNo} (h : j ≠ k) (v : Fan) : (s.setFan j v).fan k = s.fan k := by
  simp [State.fan_setFan, h]
@[simp] theorem State.fan_setBay (b : BayNo) (v : Bay) (k : FanNo) : (s.setBay b v).fan k = s.fan k := rfl
@[simp] theorem State.fan_setDrawer (d : DrawerNo) (v : Drawer) (k : FanNo) : (s.setDrawer d v).fan k = s.fan k := rfl
@[simp] theorem State.fan_setRail (r : RailNo) (v : Rail) (k : FanNo) : (s.setRail r v).fan k = s.fan k := rfl
@[simp] theorem State.fan_setCharge (b : BayNo) (v : Nat) (k : FanNo) : (s.setCharge b v).fan k = s.fan k := rfl
@[simp] theorem State.fan_setQueue (q : List QueueEntry) (k : FanNo) : (s.setQueue q).fan k = s.fan k := rfl
@[simp] theorem State.fan_setSensor (n : SensorNo) (v : Sensor) (k : FanNo) : (s.setSensor n v).fan k = s.fan k := rfl
@[simp] theorem State.fan_setSense (z : ZoneNo) (v : ZoneSense) (k : FanNo) : (s.setSense z v).fan k = s.fan k := rfl
@[simp] theorem State.fan_setReading (v : Option (SensorNo × Uptime)) (k : FanNo) : (s.setReading v).fan k = s.fan k := rfl
@[simp] theorem State.fan_setZone (z : ZoneNo) (v : Zone) (k : FanNo) : (s.setZone z v).fan k = s.fan k := rfl
@[simp] theorem State.fan_setContexts (cs : List Context) (k : FanNo) : (s.setContexts cs).fan k = s.fan k := rfl
@[simp] theorem State.fan_store (a : Nat) (bs : List Byte) (k : FanNo) : (s.store a bs).fan k = s.fan k := rfl
@[simp] theorem State.fan_setPort (x : Port) (v : PortUnit) (k : FanNo) : (s.setPort x v).fan k = s.fan k := by cases x <;> rfl

@[simp] theorem State.profile_setBay (b : BayNo) (v : Bay) (k : ProfileNo) : (s.setBay b v).profile k = s.profile k := rfl
@[simp] theorem State.profile_setDrawer (d : DrawerNo) (v : Drawer) (k : ProfileNo) : (s.setDrawer d v).profile k = s.profile k := rfl
@[simp] theorem State.profile_setRail (r : RailNo) (v : Rail) (k : ProfileNo) : (s.setRail r v).profile k = s.profile k := rfl
@[simp] theorem State.profile_setCharge (b : BayNo) (v : Nat) (k : ProfileNo) : (s.setCharge b v).profile k = s.profile k := rfl
@[simp] theorem State.profile_setQueue (q : List QueueEntry) (k : ProfileNo) : (s.setQueue q).profile k = s.profile k := rfl
@[simp] theorem State.profile_setSensor (n : SensorNo) (v : Sensor) (k : ProfileNo) : (s.setSensor n v).profile k = s.profile k := rfl
@[simp] theorem State.profile_setSense (z : ZoneNo) (v : ZoneSense) (k : ProfileNo) : (s.setSense z v).profile k = s.profile k := rfl
@[simp] theorem State.profile_setReading (v : Option (SensorNo × Uptime)) (k : ProfileNo) : (s.setReading v).profile k = s.profile k := rfl
@[simp] theorem State.profile_setZone (z : ZoneNo) (v : Zone) (k : ProfileNo) : (s.setZone z v).profile k = s.profile k := rfl
@[simp] theorem State.profile_setFan (f : FanNo) (v : Fan) (k : ProfileNo) : (s.setFan f v).profile k = s.profile k := rfl
@[simp] theorem State.profile_setContexts (cs : List Context) (k : ProfileNo) : (s.setContexts cs).profile k = s.profile k := rfl
@[simp] theorem State.profile_store (a : Nat) (bs : List Byte) (k : ProfileNo) : (s.store a bs).profile k = s.profile k := rfl
@[simp] theorem State.profile_setPort (x : Port) (v : PortUnit) (k : ProfileNo) : (s.setPort x v).profile k = s.profile k := by cases x <;> rfl

@[simp] theorem State.bayDesc_setBay (b : BayNo) (v : Bay) (k : BayNo) : (s.setBay b v).bayDesc k = s.bayDesc k := rfl
@[simp] theorem State.bayDesc_setDrawer (d : DrawerNo) (v : Drawer) (k : BayNo) : (s.setDrawer d v).bayDesc k = s.bayDesc k := rfl
@[simp] theorem State.bayDesc_setRail (r : RailNo) (v : Rail) (k : BayNo) : (s.setRail r v).bayDesc k = s.bayDesc k := rfl
@[simp] theorem State.bayDesc_setCharge (b : BayNo) (v : Nat) (k : BayNo) : (s.setCharge b v).bayDesc k = s.bayDesc k := rfl
@[simp] theorem State.bayDesc_setQueue (q : List QueueEntry) (k : BayNo) : (s.setQueue q).bayDesc k = s.bayDesc k := rfl
@[simp] theorem State.bayDesc_setSensor (n : SensorNo) (v : Sensor) (k : BayNo) : (s.setSensor n v).bayDesc k = s.bayDesc k := rfl
@[simp] theorem State.bayDesc_setSense (z : ZoneNo) (v : ZoneSense) (k : BayNo) : (s.setSense z v).bayDesc k = s.bayDesc k := rfl
@[simp] theorem State.bayDesc_setReading (v : Option (SensorNo × Uptime)) (k : BayNo) : (s.setReading v).bayDesc k = s.bayDesc k := rfl
@[simp] theorem State.bayDesc_setZone (z : ZoneNo) (v : Zone) (k : BayNo) : (s.setZone z v).bayDesc k = s.bayDesc k := rfl
@[simp] theorem State.bayDesc_setFan (f : FanNo) (v : Fan) (k : BayNo) : (s.setFan f v).bayDesc k = s.bayDesc k := rfl
@[simp] theorem State.bayDesc_setContexts (cs : List Context) (k : BayNo) : (s.setContexts cs).bayDesc k = s.bayDesc k := rfl
@[simp] theorem State.bayDesc_store (a : Nat) (bs : List Byte) (k : BayNo) : (s.store a bs).bayDesc k = s.bayDesc k := rfl
@[simp] theorem State.bayDesc_setPort (x : Port) (v : PortUnit) (k : BayNo) : (s.setPort x v).bayDesc k = s.bayDesc k := by cases x <;> rfl

@[simp] theorem State.railDesc_setBay (b : BayNo) (v : Bay) (k : RailNo) : (s.setBay b v).railDesc k = s.railDesc k := rfl
@[simp] theorem State.railDesc_setDrawer (d : DrawerNo) (v : Drawer) (k : RailNo) : (s.setDrawer d v).railDesc k = s.railDesc k := rfl
@[simp] theorem State.railDesc_setRail (r : RailNo) (v : Rail) (k : RailNo) : (s.setRail r v).railDesc k = s.railDesc k := rfl
@[simp] theorem State.railDesc_setCharge (b : BayNo) (v : Nat) (k : RailNo) : (s.setCharge b v).railDesc k = s.railDesc k := rfl
@[simp] theorem State.railDesc_setQueue (q : List QueueEntry) (k : RailNo) : (s.setQueue q).railDesc k = s.railDesc k := rfl
@[simp] theorem State.railDesc_setSensor (n : SensorNo) (v : Sensor) (k : RailNo) : (s.setSensor n v).railDesc k = s.railDesc k := rfl
@[simp] theorem State.railDesc_setSense (z : ZoneNo) (v : ZoneSense) (k : RailNo) : (s.setSense z v).railDesc k = s.railDesc k := rfl
@[simp] theorem State.railDesc_setReading (v : Option (SensorNo × Uptime)) (k : RailNo) : (s.setReading v).railDesc k = s.railDesc k := rfl
@[simp] theorem State.railDesc_setZone (z : ZoneNo) (v : Zone) (k : RailNo) : (s.setZone z v).railDesc k = s.railDesc k := rfl
@[simp] theorem State.railDesc_setFan (f : FanNo) (v : Fan) (k : RailNo) : (s.setFan f v).railDesc k = s.railDesc k := rfl
@[simp] theorem State.railDesc_setContexts (cs : List Context) (k : RailNo) : (s.setContexts cs).railDesc k = s.railDesc k := rfl
@[simp] theorem State.railDesc_store (a : Nat) (bs : List Byte) (k : RailNo) : (s.store a bs).railDesc k = s.railDesc k := rfl
@[simp] theorem State.railDesc_setPort (x : Port) (v : PortUnit) (k : RailNo) : (s.setPort x v).railDesc k = s.railDesc k := by cases x <;> rfl

@[simp] theorem State.sensorDesc_setBay (b : BayNo) (v : Bay) (k : SensorNo) : (s.setBay b v).sensorDesc k = s.sensorDesc k := rfl
@[simp] theorem State.sensorDesc_setDrawer (d : DrawerNo) (v : Drawer) (k : SensorNo) : (s.setDrawer d v).sensorDesc k = s.sensorDesc k := rfl
@[simp] theorem State.sensorDesc_setRail (r : RailNo) (v : Rail) (k : SensorNo) : (s.setRail r v).sensorDesc k = s.sensorDesc k := rfl
@[simp] theorem State.sensorDesc_setCharge (b : BayNo) (v : Nat) (k : SensorNo) : (s.setCharge b v).sensorDesc k = s.sensorDesc k := rfl
@[simp] theorem State.sensorDesc_setQueue (q : List QueueEntry) (k : SensorNo) : (s.setQueue q).sensorDesc k = s.sensorDesc k := rfl
@[simp] theorem State.sensorDesc_setSensor (n : SensorNo) (v : Sensor) (k : SensorNo) : (s.setSensor n v).sensorDesc k = s.sensorDesc k := rfl
@[simp] theorem State.sensorDesc_setSense (z : ZoneNo) (v : ZoneSense) (k : SensorNo) : (s.setSense z v).sensorDesc k = s.sensorDesc k := rfl
@[simp] theorem State.sensorDesc_setReading (v : Option (SensorNo × Uptime)) (k : SensorNo) : (s.setReading v).sensorDesc k = s.sensorDesc k := rfl
@[simp] theorem State.sensorDesc_setZone (z : ZoneNo) (v : Zone) (k : SensorNo) : (s.setZone z v).sensorDesc k = s.sensorDesc k := rfl
@[simp] theorem State.sensorDesc_setFan (f : FanNo) (v : Fan) (k : SensorNo) : (s.setFan f v).sensorDesc k = s.sensorDesc k := rfl
@[simp] theorem State.sensorDesc_setContexts (cs : List Context) (k : SensorNo) : (s.setContexts cs).sensorDesc k = s.sensorDesc k := rfl
@[simp] theorem State.sensorDesc_store (a : Nat) (bs : List Byte) (k : SensorNo) : (s.store a bs).sensorDesc k = s.sensorDesc k := rfl
@[simp] theorem State.sensorDesc_setPort (x : Port) (v : PortUnit) (k : SensorNo) : (s.setPort x v).sensorDesc k = s.sensorDesc k := by cases x <;> rfl

@[simp] theorem State.zoneDesc_setBay (b : BayNo) (v : Bay) (k : ZoneNo) : (s.setBay b v).zoneDesc k = s.zoneDesc k := rfl
@[simp] theorem State.zoneDesc_setDrawer (d : DrawerNo) (v : Drawer) (k : ZoneNo) : (s.setDrawer d v).zoneDesc k = s.zoneDesc k := rfl
@[simp] theorem State.zoneDesc_setRail (r : RailNo) (v : Rail) (k : ZoneNo) : (s.setRail r v).zoneDesc k = s.zoneDesc k := rfl
@[simp] theorem State.zoneDesc_setCharge (b : BayNo) (v : Nat) (k : ZoneNo) : (s.setCharge b v).zoneDesc k = s.zoneDesc k := rfl
@[simp] theorem State.zoneDesc_setQueue (q : List QueueEntry) (k : ZoneNo) : (s.setQueue q).zoneDesc k = s.zoneDesc k := rfl
@[simp] theorem State.zoneDesc_setSensor (n : SensorNo) (v : Sensor) (k : ZoneNo) : (s.setSensor n v).zoneDesc k = s.zoneDesc k := rfl
@[simp] theorem State.zoneDesc_setSense (z : ZoneNo) (v : ZoneSense) (k : ZoneNo) : (s.setSense z v).zoneDesc k = s.zoneDesc k := rfl
@[simp] theorem State.zoneDesc_setReading (v : Option (SensorNo × Uptime)) (k : ZoneNo) : (s.setReading v).zoneDesc k = s.zoneDesc k := rfl
@[simp] theorem State.zoneDesc_setZone (z : ZoneNo) (v : Zone) (k : ZoneNo) : (s.setZone z v).zoneDesc k = s.zoneDesc k := rfl
@[simp] theorem State.zoneDesc_setFan (f : FanNo) (v : Fan) (k : ZoneNo) : (s.setFan f v).zoneDesc k = s.zoneDesc k := rfl
@[simp] theorem State.zoneDesc_setContexts (cs : List Context) (k : ZoneNo) : (s.setContexts cs).zoneDesc k = s.zoneDesc k := rfl
@[simp] theorem State.zoneDesc_store (a : Nat) (bs : List Byte) (k : ZoneNo) : (s.store a bs).zoneDesc k = s.zoneDesc k := rfl
@[simp] theorem State.zoneDesc_setPort (x : Port) (v : PortUnit) (k : ZoneNo) : (s.setPort x v).zoneDesc k = s.zoneDesc k := by cases x <;> rfl

@[simp] theorem State.fanDesc_setBay (b : BayNo) (v : Bay) (k : FanNo) : (s.setBay b v).fanDesc k = s.fanDesc k := rfl
@[simp] theorem State.fanDesc_setDrawer (d : DrawerNo) (v : Drawer) (k : FanNo) : (s.setDrawer d v).fanDesc k = s.fanDesc k := rfl
@[simp] theorem State.fanDesc_setRail (r : RailNo) (v : Rail) (k : FanNo) : (s.setRail r v).fanDesc k = s.fanDesc k := rfl
@[simp] theorem State.fanDesc_setCharge (b : BayNo) (v : Nat) (k : FanNo) : (s.setCharge b v).fanDesc k = s.fanDesc k := rfl
@[simp] theorem State.fanDesc_setQueue (q : List QueueEntry) (k : FanNo) : (s.setQueue q).fanDesc k = s.fanDesc k := rfl
@[simp] theorem State.fanDesc_setSensor (n : SensorNo) (v : Sensor) (k : FanNo) : (s.setSensor n v).fanDesc k = s.fanDesc k := rfl
@[simp] theorem State.fanDesc_setSense (z : ZoneNo) (v : ZoneSense) (k : FanNo) : (s.setSense z v).fanDesc k = s.fanDesc k := rfl
@[simp] theorem State.fanDesc_setReading (v : Option (SensorNo × Uptime)) (k : FanNo) : (s.setReading v).fanDesc k = s.fanDesc k := rfl
@[simp] theorem State.fanDesc_setZone (z : ZoneNo) (v : Zone) (k : FanNo) : (s.setZone z v).fanDesc k = s.fanDesc k := rfl
@[simp] theorem State.fanDesc_setFan (f : FanNo) (v : Fan) (k : FanNo) : (s.setFan f v).fanDesc k = s.fanDesc k := rfl
@[simp] theorem State.fanDesc_setContexts (cs : List Context) (k : FanNo) : (s.setContexts cs).fanDesc k = s.fanDesc k := rfl
@[simp] theorem State.fanDesc_store (a : Nat) (bs : List Byte) (k : FanNo) : (s.store a bs).fanDesc k = s.fanDesc k := rfl
@[simp] theorem State.fanDesc_setPort (x : Port) (v : PortUnit) (k : FanNo) : (s.setPort x v).fanDesc k = s.fanDesc k := by cases x <;> rfl

@[simp] theorem State.port_setPort_same (x : Port) (v : PortUnit) : (s.setPort x v).port x = v := by cases x <;> rfl
@[simp] theorem State.port_setPort_other (x : Port) (v : PortUnit) : (s.setPort x v).port (otherPort x) = s.port (otherPort x) := by
  cases x <;> rfl
theorem State.port_setPort (x y : Port) (v : PortUnit) : (s.setPort x v).port y = if x = y then v else s.port y := by
  cases x <;> cases y <;> rfl
@[simp] theorem State.port_setBay (b : BayNo) (v : Bay) (x : Port) : (s.setBay b v).port x = s.port x := by cases x <;> rfl
@[simp] theorem State.port_setDrawer (d : DrawerNo) (v : Drawer) (x : Port) : (s.setDrawer d v).port x = s.port x := by cases x <;> rfl
@[simp] theorem State.port_setRail (r : RailNo) (v : Rail) (x : Port) : (s.setRail r v).port x = s.port x := by cases x <;> rfl
@[simp] theorem State.port_setCharge (b : BayNo) (v : Nat) (x : Port) : (s.setCharge b v).port x = s.port x := by cases x <;> rfl
@[simp] theorem State.port_setQueue (q : List QueueEntry) (x : Port) : (s.setQueue q).port x = s.port x := by cases x <;> rfl
@[simp] theorem State.port_setSensor (n : SensorNo) (v : Sensor) (x : Port) : (s.setSensor n v).port x = s.port x := by cases x <;> rfl
@[simp] theorem State.port_setSense (z : ZoneNo) (v : ZoneSense) (x : Port) : (s.setSense z v).port x = s.port x := by cases x <;> rfl
@[simp] theorem State.port_setReading (v : Option (SensorNo × Uptime)) (x : Port) : (s.setReading v).port x = s.port x := by cases x <;> rfl
@[simp] theorem State.port_setZone (z : ZoneNo) (v : Zone) (x : Port) : (s.setZone z v).port x = s.port x := by cases x <;> rfl
@[simp] theorem State.port_setFan (f : FanNo) (v : Fan) (x : Port) : (s.setFan f v).port x = s.port x := by cases x <;> rfl
@[simp] theorem State.port_setContexts (cs : List Context) (x : Port) : (s.setContexts cs).port x = s.port x := by cases x <;> rfl
@[simp] theorem State.port_store (a : Nat) (bs : List Byte) (x : Port) : (s.store a bs).port x = s.port x := by cases x <;> rfl
@[simp] theorem State.phase_setBay (b : BayNo) (v : Bay) : (s.setBay b v).phase = s.phase := rfl
@[simp] theorem State.phase_setDrawer (d : DrawerNo) (v : Drawer) : (s.setDrawer d v).phase = s.phase := rfl
@[simp] theorem State.phase_setRail (r : RailNo) (v : Rail) : (s.setRail r v).phase = s.phase := rfl
@[simp] theorem State.phase_setCharge (b : BayNo) (v : Nat) : (s.setCharge b v).phase = s.phase := rfl
@[simp] theorem State.phase_setQueue (q : List QueueEntry) : (s.setQueue q).phase = s.phase := rfl
@[simp] theorem State.phase_setSensor (n : SensorNo) (v : Sensor) : (s.setSensor n v).phase = s.phase := rfl
@[simp] theorem State.phase_setSense (z : ZoneNo) (v : ZoneSense) : (s.setSense z v).phase = s.phase := rfl
@[simp] theorem State.phase_setReading (v : Option (SensorNo × Uptime)) : (s.setReading v).phase = s.phase := rfl
@[simp] theorem State.phase_setZone (z : ZoneNo) (v : Zone) : (s.setZone z v).phase = s.phase := rfl
@[simp] theorem State.phase_setFan (f : FanNo) (v : Fan) : (s.setFan f v).phase = s.phase := rfl
@[simp] theorem State.phase_setContexts (cs : List Context) : (s.setContexts cs).phase = s.phase := rfl
@[simp] theorem State.phase_store (a : Nat) (bs : List Byte) : (s.store a bs).phase = s.phase := rfl
@[simp] theorem State.phase_setPort (x : Port) (v : PortUnit) : (s.setPort x v).phase = s.phase := by cases x <;> rfl

/-! ### Putting back what is there -/

theorem State.setBay_self (k : BayNo) : s.setBay k (s.bay k) = s := by simp [State.setBay, State.bay]
theorem State.setDrawer_self (k : DrawerNo) : s.setDrawer k (s.drawer k) = s := by simp [State.setDrawer, State.drawer]
theorem State.setRail_self (k : RailNo) : s.setRail k (s.rail k) = s := by simp [State.setRail, State.rail]
theorem State.setCharge_self (k : BayNo) : s.setCharge k (s.charge k) = s := by simp [State.setCharge, State.charge]
theorem State.setSensor_self (k : SensorNo) : s.setSensor k (s.sensor k) = s := by simp [State.setSensor, State.sensor]
theorem State.setSense_self (k : ZoneNo) : s.setSense k (s.sense k) = s := by simp [State.setSense, State.sense]
theorem State.setZone_self (k : ZoneNo) : s.setZone k (s.zone k) = s := by simp [State.setZone, State.zone]
theorem State.setFan_self (k : FanNo) : s.setFan k (s.fan k) = s := by simp [State.setFan, State.fan]
theorem State.setPort_self (x : Port) : s.setPort x (s.port x) = s := by cases x <;> rfl

end Sys2Proof.Machine
end

