-- ==== Sys2Proof/Laws/Memory.lean ====
section
/-! SUPPORT. The exchange memory: a read after a write, and that every memory operation keeps the canonical form. -/

namespace Sys2Proof.Machine

/-! ### Reads -/

theorem Memory.read_append (m n : Memory) (x : Nat) :
    Memory.read (m ++ n) x = if ∃ c ∈ m, c.1 = x then Memory.read m x else Memory.read n x := by
  induction m with
  | nil => simp
  | cons c cs ih =>
    by_cases h : c.1 = x
    · simp [Memory.read, h]
    · simp [Memory.read, h, ih]

theorem Memory.read_absent (m : Memory) (x : Nat) (h : ∀ c ∈ m, c.1 ≠ x) : Memory.read m x = 0 := by
  induction m with
  | nil => rfl
  | cons c cs ih =>
    rw [Memory.read, if_neg (h c (by simp)), ih fun d hd => h d (by simp [hd])]

/-- A filter that keeps every entry of an address reads as before there. -/
theorem Memory.read_filter (m : Memory) (p : Host.Cell → Bool) (x : Nat) (h : ∀ c ∈ m, c.1 = x → p c = true) :
    Memory.read (m.filter p) x = Memory.read m x := by
  induction m with
  | nil => rfl
  | cons c cs ih =>
    have ih := ih fun d hd => h d (by simp [hd])
    by_cases hx : c.1 = x
    · simp [h c (by simp) hx, Memory.read, hx]
    · by_cases hp : p c = true
      · simp [hp, Memory.read, hx, ih]
      · simp [hp, Memory.read, hx, ih]

theorem Memory.cells_nonzero (a : Nat) {v : Byte} (vs : List Byte) (hv : v ≠ 0) :
    Memory.cells a (v :: vs) = (a, v) :: Memory.cells (a + 1) vs := if_neg hv

theorem Memory.cells_zero (a : Nat) {v : Byte} (vs : List Byte) (hv : v = 0) :
    Memory.cells a (v :: vs) = Memory.cells (a + 1) vs := if_pos hv

theorem Memory.cells_bound (a : Nat) (bs : List Byte) : ∀ c ∈ Memory.cells a bs, a ≤ c.1 ∧ c.1 < a + bs.length := by
  induction bs generalizing a with
  | nil => simp [Memory.cells]
  | cons v vs ih =>
    intro c hc
    have h := ih (a + 1) c
    by_cases hv : v = 0
    · rw [Memory.cells_zero a vs hv] at hc
      have := h hc
      simp
      omega
    · rw [Memory.cells_nonzero a vs hv] at hc
      rcases List.mem_cons.mp hc with rfl | hc
      · simp
      · have := h hc
        simp
        omega

theorem Memory.read_cells (a : Nat) (bs : List Byte) (x : Nat) :
    Memory.read (Memory.cells a bs) x = if a ≤ x ∧ x < a + bs.length then bs.getD (x - a) 0 else 0 := by
  induction bs generalizing a with
  | nil => simp [Memory.cells, Memory.read]
  | cons v vs ih =>
    by_cases hx : a = x
    · subst hx
      by_cases hv : v = 0
      · have h0 : Memory.read (Memory.cells (a + 1) vs) a = 0 :=
          Memory.read_absent _ _ fun c hc => by have := Memory.cells_bound _ _ c hc; omega
        rw [Memory.cells_zero a vs hv, h0]
        simp [hv]
      · rw [Memory.cells_nonzero a vs hv]
        simp [Memory.read]
    · have h1 : Memory.read (Memory.cells a (v :: vs)) x = Memory.read (Memory.cells (a + 1) vs) x := by
        by_cases hv : v = 0
        · rw [Memory.cells_zero a vs hv]
        · rw [Memory.cells_nonzero a vs hv]
          simp [Memory.read, hx]
      rw [h1, ih]
      by_cases hb : a + 1 ≤ x
      · have e : x - a = (x - (a + 1)) + 1 := by omega
        have : (a ≤ x ∧ x < a + (v :: vs).length) ↔ (a + 1 ≤ x ∧ x < a + 1 + vs.length) := by simp; omega
        simp only [this]
        split <;> simp [e]
      · have h2 : ¬(a ≤ x) := by omega
        simp [hb, h2]

/-- A read after a write: the written byte inside the run, and outside it what was there. -/
theorem Memory.read_write (m : Memory) (a : Nat) (bs : List Byte) (x : Nat) :
    Memory.read (Memory.write m a bs) x =
      if a ≤ x ∧ x < a + bs.length then bs.getD (x - a) 0 else Memory.read m x := by
  unfold Memory.write
  rw [Memory.read_append, Memory.read_append, Memory.read_cells]
  by_cases h1 : x < a
  · have ho : ¬(a ≤ x ∧ x < a + bs.length) := by omega
    simp only [ho, if_false]
    by_cases he : ∃ c ∈ m.filter (fun c => decide (c.1 < a)), c.1 = x
    · rw [if_pos he, Memory.read_filter]
      intro c _ hc
      simp [hc, h1]
    · rw [if_neg he]
      have hm : ∀ c ∈ m, c.1 ≠ x := fun c hc hx => he ⟨c, by simp [hc, hx, h1], hx⟩
      rw [Memory.read_absent m x hm]
      split
      · rfl
      · exact Memory.read_absent _ _ fun c hc => hm c (List.mem_filter.mp hc).1
  · have hn : ¬∃ c ∈ m.filter (fun c => decide (c.1 < a)), c.1 = x := by
      rintro ⟨c, hc, rfl⟩
      simp at hc
      omega
    rw [if_neg hn]
    by_cases h2 : x < a + bs.length
    · have hi : a ≤ x ∧ x < a + bs.length := by omega
      simp only [hi, and_self, if_true]
      by_cases he : ∃ c ∈ Memory.cells a bs, c.1 = x
      · rw [if_pos he]
      · rw [if_neg he]
        have hz : Memory.read (Memory.cells a bs) x = 0 :=
          Memory.read_absent _ _ fun c hc hx => he ⟨c, hc, hx⟩
        rw [Memory.read_cells, if_pos hi] at hz
        rw [hz]
        exact Memory.read_absent _ _ fun c hc => by
          have := (List.mem_filter.mp hc).2
          simp at this
          omega
    · have ho : ¬(a ≤ x ∧ x < a + bs.length) := by omega
      have hn2 : ¬∃ c ∈ Memory.cells a bs, c.1 = x := by
        rintro ⟨c, hc, rfl⟩
        have := Memory.cells_bound _ _ c hc
        omega
      rw [if_neg hn2, if_neg ho, Memory.read_filter]
      intro c _ hc
      simp [hc]
      omega

/-- A write leaves every byte outside its run. -/
theorem Memory.read_write_outside {m : Memory} {a : Nat} {bs : List Byte} {x : Nat} (h : x < a ∨ a + bs.length ≤ x) :
    Memory.read (Memory.write m a bs) x = Memory.read m x := by
  rw [Memory.read_write, if_neg (by omega)]

theorem Memory.readRun_length (m : Memory) (a n : Nat) : (Memory.readRun m a n).length = n := by simp [Memory.readRun]

/-- A read of the run just written gives the bytes written. -/
theorem Memory.readRun_write_same (m : Memory) (a : Nat) (bs : List Byte) :
    Memory.readRun (Memory.write m a bs) a bs.length = bs := by
  apply List.ext_getElem
  · simp [Memory.readRun]
  · intro i h1 h2
    simp [Memory.readRun, Memory.read_write, h2]

/-- A read of a run that a write does not touch gives what was there. -/
theorem Memory.readRun_write_disjoint {m : Memory} {a b n : Nat} {bs : List Byte} (h : b + n ≤ a ∨ a + bs.length ≤ b) :
    Memory.readRun (Memory.write m a bs) b n = Memory.readRun m b n := by
  apply List.ext_getElem
  · simp [Memory.readRun]
  · intro i h1 h2
    simp [Memory.readRun] at h1
    simp only [Memory.readRun, List.getElem_map, List.getElem_range]
    exact Memory.read_write_outside (by omega)

/-! ### The canonical form -/

/-- The canonical form as a fact about the list: no zero entry, addresses strictly rising. -/
theorem Memory.wf_iff (m : Memory) :
    Memory.wf m = true ↔ (∀ c ∈ m, c.2 ≠ 0) ∧ m.Pairwise fun c d => c.1 < d.1 := by
  induction m with
  | nil => simp [Memory.wf]
  | cons c cs ih =>
    simp only [Memory.wf, Bool.and_eq_true, ih, List.pairwise_cons, List.all_eq_true, decide_eq_true_eq, bne_iff_ne, ne_eq,
      List.mem_cons, forall_eq_or_imp]
    tauto

theorem Memory.cells_wf (a : Nat) (bs : List Byte) :
    (∀ c ∈ Memory.cells a bs, c.2 ≠ 0) ∧ (Memory.cells a bs).Pairwise fun c d => c.1 < d.1 := by
  induction bs generalizing a with
  | nil => simp [Memory.cells]
  | cons v vs ih =>
    by_cases hv : v = 0
    · rw [Memory.cells_zero a vs hv]
      exact ih (a + 1)
    · rw [Memory.cells_nonzero a vs hv]
      refine ⟨?_, ?_⟩
      · intro c hc
        rcases List.mem_cons.mp hc with rfl | hc
        · exact hv
        · exact (ih (a + 1)).1 c hc
      · rw [List.pairwise_cons]
        exact ⟨fun d hd => by have := Memory.cells_bound _ _ d hd; simp; omega, (ih (a + 1)).2⟩

/-- A write keeps the canonical form. -/
theorem Memory.wf_write {m : Memory} (h : Memory.wf m = true) (a : Nat) (bs : List Byte) :
    Memory.wf (Memory.write m a bs) = true := by
  rw [Memory.wf_iff] at h ⊢
  obtain ⟨h0, h1⟩ := h
  have hc := Memory.cells_wf a bs
  have hb := Memory.cells_bound a bs
  refine ⟨?_, ?_⟩
  · intro c hm
    simp only [Memory.write, List.mem_append, List.mem_filter] at hm
    rcases hm with hm | hm | hm
    · exact h0 c hm.1
    · exact hc.1 c hm
    · exact h0 c hm.1
  · unfold Memory.write
    rw [List.pairwise_append, List.pairwise_append]
    refine ⟨h1.filter _, ⟨hc.2, h1.filter _, ?_⟩, ?_⟩
    · intro c hcm d hd
      have := hb c hcm
      have := (List.mem_filter.mp hd).2
      simp at this
      omega
    · intro c hcm d hd
      have h2 := (List.mem_filter.mp hcm).2
      simp at h2
      rcases List.mem_append.mp hd with hd | hd
      · have := hb d hd
        omega
      · have h3 := (List.mem_filter.mp hd).2
        simp at h3
        omega

/-- Storing a run keeps the canonical form. -/
theorem State.wf_store {s : State} (h : Memory.wf s.xm = true) (a : Nat) (bs : List Byte) :
    Memory.wf (s.store a bs).xm = true := Memory.wf_write h a bs

theorem reset_memory_wf : Memory.wf State.reset.xm = true := by decide

end Sys2Proof.Machine
end

