-- ==== Sys2Proof/Laws/Ops.lean ====
section
/-! SUPPORT. What the shared operations of Ops and Records can do: a piece of work done for each element, and publishing, by which
records, events and notices go out and nothing else changes. -/

namespace Sys2Proof.Machine

/-! ### Work done for each element -/

/-- A property that the work keeps for each element is kept by the whole. -/
theorem forEach_keeps {α : Type} {P : State → Prop} {f : α → State → State} (l : List α)
    (h : ∀ x ∈ l, ∀ s, P s → P (f x s)) (s : State) (hs : P s) : P (forEach l f s) := by
  induction l generalizing s with
  | nil => exact hs
  | cons x xs ih => exact ih (fun y hy => h y (by simp [hy])) (f x s) (h x (by simp) s hs)

/-- A relation that holds at rest, composes, and holds across the work for each element holds across the whole. -/
theorem forEach_relates {α : Type} {R : State → State → Prop} {f : α → State → State} (l : List α)
    (refl : ∀ s, R s s) (trans : ∀ {s t u}, R s t → R t u → R s u) (h : ∀ x ∈ l, ∀ s, R s (f x s)) (s : State) :
    R s (forEach l f s) := by
  induction l generalizing s with
  | nil => exact refl s
  | cons x xs ih => exact trans (h x (by simp) s) (ih (fun y hy => h y (by simp [hy])) (f x s))

/-- Work that leaves the state for every element leaves it as a whole. -/
theorem forEach_same {α : Type} {f : α → State → State} (l : List α) (s : State) (h : ∀ x ∈ l, f x s = s) :
    forEach l f s = s := by
  induction l with
  | nil => rfl
  | cons x xs ih => rw [forEach, h x (by simp)]; exact ih fun y hy => h y (by simp [hy])

theorem forEach_append {α : Type} {f : α → State → State} (l m : List α) (s : State) :
    forEach (l ++ m) f s = forEach m f (forEach l f s) := by
  induction l generalizing s with
  | nil => rfl
  | cons x xs ih => exact ih (f x s)

/-! ### Publishing -/

/-- A port unit after notices: NOTICE has only grown, by bits that exist, and messages may have gone out. -/
structure Notified (p q : PortUnit) : Prop where
  same : q = { p with notice := q.notice, messages := q.messages }
  grown : p.notice ||| q.notice = q.notice
  legal : q.notice &&& ~~~noticeMask = p.notice &&& ~~~noticeMask

theorem Notified.refl (p : PortUnit) : Notified p p := ⟨rfl, by simp, rfl⟩

theorem Notified.trans {p q r : PortUnit} (h : Notified p q) (k : Notified q r) : Notified p r := by
  refine ⟨?_, ?_, k.legal.trans h.legal⟩
  · rw [k.same, h.same]
  · rw [← k.grown, ← BitVec.or_assoc, h.grown]

/-- What publishing does: the memory keeps its canonical form, notices are set, the event list may grow, and every other part
of the state stays. -/
structure Publishes (s t : State) : Prop where
  same : t = { s with ew := t.ew, xm := t.xm, pa := t.pa, pb := t.pb }
  pa : Notified s.pa t.pa
  pb : Notified s.pb t.pb
  wf : Memory.wf s.xm = true → Memory.wf t.xm = true

theorem Publishes.refl (s : State) : Publishes s s := ⟨rfl, .refl _, .refl _, id⟩

theorem Publishes.trans {s t u : State} (h : Publishes s t) (k : Publishes t u) : Publishes s u := by
  refine ⟨?_, h.pa.trans k.pa, h.pb.trans k.pb, k.wf ∘ h.wf⟩
  rw [k.same, h.same]

theorem Publishes.store (s : State) (a : Nat) (bs : List Byte) : Publishes s (s.store a bs) :=
  ⟨rfl, .refl _, .refl _, fun h => Memory.wf_write h a bs⟩

theorem notified_notify (p : PortUnit) (bits : Word) (h : bits &&& ~~~noticeMask = 0) : Notified p (p.notify bits) := by
  refine ⟨rfl, ?_, ?_⟩
  · simp only [PortUnit.notify]
    rw [← BitVec.or_assoc, BitVec.or_self]
  · simp only [PortUnit.notify]
    have e : (p.notice ||| bits) &&& ~~~noticeMask = (p.notice &&& ~~~noticeMask) ||| (bits &&& ~~~noticeMask) := by
      ext i hi
      simp [Bool.and_or_distrib_right]
    rw [e, h]
    exact BitVec.or_zero

theorem publishes_noticeBoth (bits : Word) (h : bits &&& ~~~noticeMask = 0) (s : State) : Publishes s (noticeBoth bits s) :=
  ⟨rfl, notified_notify _ _ h, notified_notify _ _ h, id⟩

theorem publishes_noticePort (x : Port) (bits : Word) (h : bits &&& ~~~noticeMask = 0) (s : State) :
    Publishes s (noticePort x bits s) := by
  cases x
  · exact ⟨rfl, notified_notify _ _ h, .refl _, id⟩
  · exact ⟨rfl, .refl _, notified_notify _ _ h, id⟩

theorem slotBit_legal (n : SlotNo) : slotBit n &&& ~~~noticeMask = 0 := by revert n; decide
theorem noticeEvents_legal : noticeEvents &&& ~~~noticeMask = 0 := by decide
theorem noticeBays_legal : noticeBays &&& ~~~noticeMask = 0 := by decide
theorem noticeCooling_legal : noticeCooling &&& ~~~noticeMask = 0 := by decide
theorem noticePower_legal : noticePower &&& ~~~noticeMask = 0 := by decide
theorem noticePeer_legal : noticePeer &&& ~~~noticeMask = 0 := by decide
theorem noticeStart_legal : noticeStart &&& ~~~noticeMask = 0 := by decide

theorem publishes_putRecord (base : Nat) (body : List Byte) (s : State) : Publishes s (putRecord base body s) :=
  Publishes.store s _ _

theorem publishes_logEvent (e : Event) (s : State) : Publishes s (logEvent e s) := by
  have h1 : Publishes s { s with ew := { latest := nextSequence s.ew.latest } } := ⟨rfl, .refl _, .refl _, id⟩
  exact ((h1.trans (Publishes.store _ _ _)).trans (publishes_putRecord _ _ _)).trans
    (publishes_noticeBoth _ noticeEvents_legal _)

theorem publishes_logEvents (es : List Event) (s : State) : Publishes s (logEvents es s) :=
  forEach_relates es Publishes.refl Publishes.trans (fun e _ s => publishes_logEvent e s) s

theorem publishes_rewriteLive (s : State) : Publishes s (rewriteLive s) := publishes_putRecord _ _ _
theorem publishes_rewriteProfiles (s : State) : Publishes s (rewriteProfiles s) := publishes_putRecord _ _ _
theorem publishes_rewriteDescription (s : State) : Publishes s (rewriteDescription s) := publishes_putRecord _ _ _
theorem publishes_rewriteBay (b : BayNo) (s : State) : Publishes s (rewriteBay b s) :=
  (publishes_putRecord _ _ _).trans (publishes_noticeBoth _ noticeBays_legal _)
theorem publishes_rewriteDrawer (d : DrawerNo) (s : State) : Publishes s (rewriteDrawer d s) :=
  (publishes_putRecord _ _ _).trans (publishes_noticeBoth _ noticeBays_legal _)
theorem publishes_rewriteQueue (s : State) : Publishes s (rewriteQueue s) :=
  (publishes_putRecord _ _ _).trans (publishes_noticeBoth _ noticeBays_legal _)
theorem publishes_rewriteRail (r : RailNo) (s : State) : Publishes s (rewriteRail r s) :=
  (publishes_putRecord _ _ _).trans (publishes_noticeBoth _ noticePower_legal _)
theorem publishes_rewriteZone (z : ZoneNo) (s : State) : Publishes s (rewriteZone z s) :=
  (publishes_putRecord _ _ _).trans (publishes_noticeBoth _ noticeCooling_legal _)
theorem publishes_rewriteSensor (n : SensorNo) (s : State) : Publishes s (rewriteSensor n s) :=
  (publishes_putRecord _ _ _).trans (publishes_noticeBoth _ noticeCooling_legal _)
theorem publishes_rewriteFan (f : FanNo) (s : State) : Publishes s (rewriteFan f s) :=
  (publishes_putRecord _ _ _).trans (publishes_noticeBoth _ noticeCooling_legal _)
theorem publishes_rewriteFanHanding (f : FanNo) (s : State) : Publishes s (rewriteFanHanding f s) :=
  (publishes_putRecord _ _ _).trans (publishes_noticeBoth _ noticeCooling_legal _)

theorem publishes_publishBay (b : BayNo) (s : State) : Publishes s (publishBay b s) := by
  unfold publishBay
  split
  · exact publishes_rewriteBay b s
  · exact .refl s
theorem publishes_publishRail (r : RailNo) (s : State) : Publishes s (publishRail r s) := by
  unfold publishRail
  split
  · exact publishes_rewriteRail r s
  · exact .refl s
theorem publishes_publishZone (z : ZoneNo) (s : State) : Publishes s (publishZone z s) := by
  unfold publishZone
  split
  · exact publishes_rewriteZone z s
  · exact .refl s
theorem publishes_publishSensor (n : SensorNo) (s : State) : Publishes s (publishSensor n s) := by
  unfold publishSensor
  split
  · exact publishes_rewriteSensor n s
  · exact .refl s

/-! ### What publishing leaves, field by field -/

section
variable {s t : State} (h : Publishes s t)
include h

theorem Publishes.uptime : t.uptime = s.uptime := by rw [h.same]
theorem Publishes.dl : t.dl = s.dl := by rw [h.same]
theorem Publishes.bc : t.bc = s.bc := by rw [h.same]
theorem Publishes.ps : t.ps = s.ps := by rw [h.same]
theorem Publishes.tu : t.tu = s.tu := by rw [h.same]
theorem Publishes.cc : t.cc = s.cc := by rw [h.same]
theorem Publishes.fm : t.fm = s.fm := by rw [h.same]
theorem Publishes.ie : t.ie = s.ie := by rw [h.same]
theorem Publishes.oi : t.oi = s.oi := by rw [h.same]
theorem Publishes.pending : t.pending = s.pending := by rw [h.same]
theorem Publishes.bay (b : BayNo) : t.bay b = s.bay b := by rw [State.bay, h.bc]; rfl
theorem Publishes.rail (r : RailNo) : t.rail r = s.rail r := by rw [State.rail, h.ps]; rfl
theorem Publishes.charge (b : BayNo) : t.charge b = s.charge b := by rw [State.charge, h.ps]; rfl
theorem Publishes.port (x : Port) : Notified (s.port x) (t.port x) := by cases x <;> [exact h.pa; exact h.pb]
end

end Sys2Proof.Machine
end

