-- ==== Sys2Proof/Laws/Power.lean ====
section
/-! SUPPORT. What the power sequencer's shared operations can do: booking a charge, evaluating the over-limit condition, and what
an examination of a rail may change. -/

namespace Sys2Proof.Machine

/-! ### The over-limit condition -/

/-- An evaluation sets OVER_LIMIT to whether the committed draw is above the admit limit, and otherwise only publishes. -/
theorem evaluateOverLimit_cases (r : RailNo) (s : State) :
    Publishes
      (s.setRail r { s.rail r with overLimit := decide ((s.rail r).admitLimit < committed s r) }) (evaluateOverLimit r s) := by
  unfold evaluateOverLimit
  by_cases h : decide ((s.rail r).admitLimit < committed s r) = (s.rail r).overLimit
  · have e : s.setRail r { s.rail r with overLimit := (s.rail r).overLimit } = s := State.setRail_self s r
    simp only [h, if_true]
    rw [e]
    exact .refl s
  · simp only [h, if_false]
    exact publishes_logEvent _ _

/-! ### Admissions -/

/-- A bay as an admission leaves it (R42). -/
def admittedBay (v : Bay) (p : Profile) (u : Uptime) : Bay :=
  { v with
    admittedSurge := p.surge, admittedSurgeTime := p.surgeTime, admittedRunning := p.running, switch := true,
    state := .seated .spinup, surgeEnd := some (uptimeAfter u (100 * p.surgeTime)), switchOn := .admitted u, changed := u }

/-- What an examination of rail r may change: each bay is left, or was QUEUED on r and is as an admission leaves it; the queue
only loses entries; and of the rest only the power sequencer's charges and rails, the records, events and notices may differ. -/
structure Admits (r : RailNo) (s t : State) : Prop where
  same :
    t = { s with
      bc := { s.bc with bays := t.bc.bays }
      ps := { s.ps with rails := t.ps.rails, charges := t.ps.charges, queue := t.ps.queue }
      ew := t.ew, xm := t.xm, pa := t.pa, pb := t.pb }
  pa : Notified s.pa t.pa
  pb : Notified s.pb t.pb
  wf : Memory.wf s.xm = true → Memory.wf t.xm = true
  bay : ∀ b, t.bay b = s.bay b ∨
    (railOf s b = r ∧ (s.bay b).state = .seated .queued ∧ t.bay b = admittedBay (s.bay b) (profileOf s b) s.uptime)
  queue : t.ps.queue.Sublist s.ps.queue

theorem Admits.refl (r : RailNo) (s : State) : Admits r s s :=
  ⟨rfl, .refl _, .refl _, id, fun _ => .inl rfl, List.Sublist.refl _⟩

theorem Publishes.admits {s t : State} (h : Publishes s t) (r : RailNo) : Admits r s t :=
  ⟨by conv => lhs; rw [h.same]
      simp [h.bc, h.ps], h.pa, h.pb, h.wf, fun b => .inl (h.bay b), by rw [h.ps]⟩

theorem Admits.railOf_eq {r : RailNo} {s t : State} (h : Admits r s t) (b : BayNo) : railOf t b = railOf s b := by
  have e := congrArg State.dl h.same
  simp only at e
  simp [railOf, State.bayDesc, e]

theorem Admits.uptime_eq {r : RailNo} {s t : State} (h : Admits r s t) : t.uptime = s.uptime := by
  have e := congrArg State.uptime h.same
  simpa using e

theorem Admits.profileOf_eq {r : RailNo} {s t : State} (h : Admits r s t) (b : BayNo) (hb : t.bay b = s.bay b) :
    profileOf t b = profileOf s b := by
  have e := congrArg (fun u : State => u.ps.profiles) h.same
  simp only at e
  simp [profileOf, State.profile, e, hb]

theorem Admits.trans {r : RailNo} {s t u : State} (h : Admits r s t) (k : Admits r t u) : Admits r s u := by
  refine ⟨?_, h.pa.trans k.pa, h.pb.trans k.pb, k.wf ∘ h.wf, ?_, k.queue.trans h.queue⟩
  · rw [k.same, h.same]
  · intro b
    rcases k.bay b with hb | ⟨h1, h2, h3⟩
    · rcases h.bay b with hs | ⟨g1, g2, g3⟩
      · exact .inl (hb.trans hs)
      · exact .inr ⟨g1, g2, hb.trans g3⟩
    · rcases h.bay b with hs | ⟨g1, g2, g3⟩
      · refine .inr ⟨by rw [← h.railOf_eq b]; exact h1, by rw [← hs]; exact h2, ?_⟩
        rw [h3, hs, h.profileOf_eq b hs, h.uptime_eq]
      · rw [g3] at h2
        simp [admittedBay] at h2

/-- Setting fields of a rail is within what an examination may do. -/
theorem Admits.setRail (r q : RailNo) (v : Rail) (s : State) : Admits r s (s.setRail q v) :=
  ⟨rfl, .refl _, .refl _, id, fun _ => .inl rfl, List.Sublist.refl _⟩

theorem evaluateOverLimit_admits (r q : RailNo) (s : State) : Admits r s (evaluateOverLimit q s) :=
  (Admits.setRail r q _ s).trans ((evaluateOverLimit_cases q s).admits r)

theorem bookCharge_admits (r : RailNo) (b : BayNo) (c : Nat) (s : State) : Admits r s (bookCharge b c s) :=
  ⟨rfl, .refl _, .refl _, id, fun _ => .inl rfl, List.Sublist.refl _⟩

/-- The change of the bay, the queue and the charge that an admission makes is within what an examination may do. -/
theorem admitBay_admits (r : RailNo) (b : BayNo) (s : State) (hr : railOf s b = r) (hq : (s.bay b).state = .seated .queued) :
    Admits r s (admitBay r b s) := by
  have h1 : Admits r s
      ((s.setQueue (withoutBay b s.ps.queue)).setBay b (admittedBay (s.bay b) (profileOf s b) s.uptime)) := by
    refine ⟨rfl, .refl _, .refl _, id, fun c => ?_, List.filter_sublist⟩
    by_cases hc : b = c
    · subst hc
      exact .inr ⟨hr, hq, by simp⟩
    · exact .inl (by simp [State.bay_setBay_ne _ hc])
  have h2 := bookCharge_admits r b (profileOf s b).surge
    ((s.setQueue (withoutBay b s.ps.queue)).setBay b (admittedBay (s.bay b) (profileOf s b) s.uptime))
  unfold admitBay
  refine Admits.trans ?_ ((publishes_publishBay b _).admits r)
  refine Admits.trans ?_ ((publishes_rewriteRail r _).admits r)
  refine Admits.trans ?_ ((publishes_rewriteQueue _).admits r)
  refine Admits.trans ?_ (evaluateOverLimit_admits r r _)
  refine Admits.trans ?_ ((publishes_logEvent _ _).admits r)
  refine Admits.trans ?_ (Admits.setRail r r _ _)
  exact h1.trans h2

theorem candidate_spec {s : State} {r : RailNo} {e : QueueEntry} (h : candidate s r = some e) :
    e ∈ s.ps.queue ∧ railOf s e.bay = r ∧ (s.bay e.bay).state = .seated .queued := by
  have h1 := List.mem_of_find?_eq_some h
  have h2 := List.find?_some h
  simp [eligible] at h2
  exact ⟨h1, h2.1, h2.2.1.1⟩

theorem setBlocked_admits (r : RailNo) (v : Option BayNo) (s : State) : Admits r s (setBlocked r v s) := Admits.setRail r r _ s

theorem publishRail_admits (r : RailNo) (s : State) : Admits r s (publishRail r s) := (publishes_publishRail r s).admits r

theorem examineWith_admits (fuel : Nat) (r : RailNo) (s : State) : Admits r s (examineWith fuel r s) := by
  induction fuel generalizing s with
  | zero => exact .refl r s
  | succ n ih =>
    unfold examineWith
    split
    · exact (setBlocked_admits r none s).trans (publishRail_admits r _)
    · rename_i e he
      obtain ⟨-, hr, hq⟩ := candidate_spec he
      split
      · split
        · exact (setBlocked_admits r none s).trans (publishRail_admits r _)
        · exact ((setBlocked_admits r none s).trans (admitBay_admits r e.bay _ hr hq)).trans (ih _)
      · exact (setBlocked_admits r _ s).trans (publishRail_admits r _)

/-- What an examination of a rail can do (R41, R42). -/
theorem examineRail_admits (r : RailNo) (s : State) : Admits r s (examineRail r s) := examineWith_admits _ r s

theorem examineIf_admits (c : Bool) (b : BayNo) (s : State) : Admits (railOf s b) s (examineIf c b s) := by
  unfold examineIf
  split
  · exact examineRail_admits _ s
  · exact .refl _ s

/-- A bay that is not QUEUED is left by an examination. -/
theorem Admits.bay_same {r : RailNo} {s t : State} (h : Admits r s t) {b : BayNo} (hb : (s.bay b).state ≠ .seated .queued) :
    t.bay b = s.bay b := by
  rcases h.bay b with e | ⟨_, e, _⟩
  · exact e
  · exact absurd e hb

/-- With no queued bay eligible on the rail, an examination clears BLOCKED and publishes the record. -/
theorem examineRail_none {r : RailNo} {s : State} (h : candidate s r = none) :
    examineRail r s = publishRail r (setBlocked r none s) := by
  simp [examineRail, examineWith, h]

/-! ### Charges -/

/-- Handing a charge changes the charge of that bay and the rails, and publishes. -/
theorem handCharge_admits (r : RailNo) (b : BayNo) (c : Nat) (s : State) : Admits r s (handCharge b c s) := by
  unfold handCharge
  split
  · exact .refl r s
  · exact ((bookCharge_admits r b c s).trans (evaluateOverLimit_admits r _ _)).trans ((publishes_publishRail _ _).admits r)

theorem publishRail_ps (r : RailNo) (s : State) : (publishRail r s).ps = s.ps := (publishes_publishRail r s).ps

theorem handCharge_charge (b : BayNo) (c : Nat) (s : State) (k : BayNo) :
    (handCharge b c s).charge k = if b = k then c else s.charge k := by
  unfold handCharge
  split
  · rename_i h
    split
    · rename_i hk
      rw [h, hk]
    · rfl
  · rw [(publishes_publishRail _ _).charge, (evaluateOverLimit_cases _ _).charge]
    simp [bookCharge, State.charge_setCharge]

end Sys2Proof.Machine
end

