-- ==== Sys2Proof/Laws/Quiet.lean ====
section
/-! SUPPORT. The quiet changes: what every piece of work but a reset, a tick, the end of LOADING and a port write leaves. The uptime,
the description loader's state, the waiting commands and the ports stay, but for notices; the memory keeps its canonical
form. One lemma for each operation. -/

namespace Sys2Proof.Machine

/-- A change that leaves the uptime, the description loader, the waiting commands and the ports, but for notices, and keeps the
canonical form of the memory. -/
structure Quiet (s t : State) : Prop where
  uptime : t.uptime = s.uptime
  dl : t.dl = s.dl
  pa : Notified s.pa t.pa
  pb : Notified s.pb t.pb
  pending : t.pending = s.pending
  wf : Memory.wf s.xm = true → Memory.wf t.xm = true

theorem Quiet.refl (s : State) : Quiet s s := ⟨rfl, rfl, .refl _, .refl _, rfl, id⟩

theorem Quiet.trans {s t u : State} (h : Quiet s t) (k : Quiet t u) : Quiet s u :=
  ⟨k.uptime.trans h.uptime, k.dl.trans h.dl, h.pa.trans k.pa, h.pb.trans k.pb, k.pending.trans h.pending, k.wf ∘ h.wf⟩

theorem Publishes.quiet {s t : State} (h : Publishes s t) : Quiet s t := ⟨h.uptime, h.dl, h.pa, h.pb, h.pending, h.wf⟩

theorem Admits.quiet {r : RailNo} {s t : State} (h : Admits r s t) : Quiet s t :=
  ⟨h.uptime_eq, by have e := congrArg State.dl h.same; simpa using e, h.pa, h.pb,
    by have e := congrArg State.pending h.same; simpa using e, h.wf⟩

theorem Quiet.phase_eq {s t : State} (h : Quiet s t) : t.phase = s.phase := by rw [State.phase, h.dl]; rfl

theorem Quiet.port {s t : State} (h : Quiet s t) (x : Port) : Notified (s.port x) (t.port x) := by
  cases x <;> [exact h.pa; exact h.pb]

/-- Notices leave a port's POST. -/
theorem Notified.post {p q : PortUnit} (h : Notified p q) : q.post = p.post := by rw [h.same]
/-- Notices leave a port's NOTICE_ENABLE. -/
theorem Notified.enable {p q : PortUnit} (h : Notified p q) : q.enable = p.enable := by rw [h.same]
/-- Notices leave a port's state. -/
theorem Notified.state {p q : PortUnit} (h : Notified p q) : q.state = p.state := by rw [h.same]
/-- Notices leave a port's silence timer. -/
theorem Notified.silenceEnd {p q : PortUnit} (h : Notified p q) : q.silenceEnd = p.silenceEnd := by rw [h.same]

variable {s t : State}

/-- A change of blocks' own state alone. -/
theorem Quiet.keep {u : State} (h : Quiet s t) (h1 : u.uptime = t.uptime) (h2 : u.dl = t.dl) (h3 : u.pa = t.pa)
    (h4 : u.pb = t.pb) (h5 : u.pending = t.pending) (h6 : u.xm = t.xm) : Quiet s u :=
  ⟨h1.trans h.uptime, h2.trans h.dl, h3 ▸ h.pa, h4 ▸ h.pb, h5.trans h.pending, h6 ▸ h.wf⟩

theorem Quiet.publish {u : State} (h : Quiet s t) (k : Publishes t u) : Quiet s u := h.trans k.quiet

/-- Work done for each element of a list is quiet if each piece is. -/
theorem Quiet.forEach {α : Type} (h : Quiet s t) (l : List α) {f : α → State → State}
    (hf : ∀ x u, Quiet s u → Quiet s (f x u)) : Quiet s (Machine.forEach l f t) :=
  forEach_keeps l (fun x _ u => hf x u) t h

/-! ### Updates and publishing -/

theorem Quiet.setBay (h : Quiet s t) (b : BayNo) (v : Bay) : Quiet s (t.setBay b v) := h.keep rfl rfl rfl rfl rfl rfl
theorem Quiet.setDrawer (h : Quiet s t) (d : DrawerNo) (v : Drawer) : Quiet s (t.setDrawer d v) :=
  h.keep rfl rfl rfl rfl rfl rfl
theorem Quiet.setRail (h : Quiet s t) (r : RailNo) (v : Rail) : Quiet s (t.setRail r v) := h.keep rfl rfl rfl rfl rfl rfl
theorem Quiet.setCharge (h : Quiet s t) (b : BayNo) (v : Nat) : Quiet s (t.setCharge b v) := h.keep rfl rfl rfl rfl rfl rfl
theorem Quiet.setQueue (h : Quiet s t) (q : List QueueEntry) : Quiet s (t.setQueue q) := h.keep rfl rfl rfl rfl rfl rfl
theorem Quiet.setSensor (h : Quiet s t) (n : SensorNo) (v : Sensor) : Quiet s (t.setSensor n v) :=
  h.keep rfl rfl rfl rfl rfl rfl
theorem Quiet.setSense (h : Quiet s t) (z : ZoneNo) (v : ZoneSense) : Quiet s (t.setSense z v) :=
  h.keep rfl rfl rfl rfl rfl rfl
theorem Quiet.setReading (h : Quiet s t) (v : Option (SensorNo × Uptime)) : Quiet s (t.setReading v) :=
  h.keep rfl rfl rfl rfl rfl rfl
theorem Quiet.setZone (h : Quiet s t) (z : ZoneNo) (v : Zone) : Quiet s (t.setZone z v) := h.keep rfl rfl rfl rfl rfl rfl
theorem Quiet.setFan (h : Quiet s t) (f : FanNo) (v : Fan) : Quiet s (t.setFan f v) := h.keep rfl rfl rfl rfl rfl rfl
theorem Quiet.setContexts (h : Quiet s t) (cs : List Context) : Quiet s (t.setContexts cs) := h.keep rfl rfl rfl rfl rfl rfl
theorem Quiet.store (h : Quiet s t) (a : Nat) (bs : List Byte) : Quiet s (t.store a bs) := h.publish (.store t a bs)
theorem Quiet.logEvent (h : Quiet s t) (e : Event) : Quiet s (logEvent e t) := h.publish (publishes_logEvent e t)
theorem Quiet.logEvents (h : Quiet s t) (es : List Event) : Quiet s (logEvents es t) := h.publish (publishes_logEvents es t)
theorem Quiet.publishBay (h : Quiet s t) (b : BayNo) : Quiet s (publishBay b t) := h.publish (publishes_publishBay b t)
theorem Quiet.publishRail (h : Quiet s t) (r : RailNo) : Quiet s (publishRail r t) := h.publish (publishes_publishRail r t)
theorem Quiet.publishZone (h : Quiet s t) (z : ZoneNo) : Quiet s (publishZone z t) := h.publish (publishes_publishZone z t)
theorem Quiet.publishSensor (h : Quiet s t) (n : SensorNo) : Quiet s (publishSensor n t) :=
  h.publish (publishes_publishSensor n t)
theorem Quiet.rewriteQueue (h : Quiet s t) : Quiet s (rewriteQueue t) := h.publish (publishes_rewriteQueue t)
theorem Quiet.rewriteRail (h : Quiet s t) (r : RailNo) : Quiet s (rewriteRail r t) := h.publish (publishes_rewriteRail r t)
theorem Quiet.rewriteDrawer (h : Quiet s t) (d : DrawerNo) : Quiet s (rewriteDrawer d t) :=
  h.publish (publishes_rewriteDrawer d t)

/-! ### The power sequencer -/

theorem Quiet.evaluateOverLimit (h : Quiet s t) (r : RailNo) : Quiet s (evaluateOverLimit r t) :=
  h.trans (evaluateOverLimit_admits r r t).quiet
theorem Quiet.handCharge (h : Quiet s t) (b : BayNo) (c : Nat) : Quiet s (handCharge b c t) :=
  h.trans (handCharge_admits 0 b c t).quiet
theorem Quiet.examineRail (h : Quiet s t) (r : RailNo) : Quiet s (examineRail r t) := h.trans (examineRail_admits r t).quiet
theorem Quiet.examineIf (h : Quiet s t) (c : Bool) (b : BayNo) : Quiet s (examineIf c b t) :=
  h.trans (examineIf_admits c b t).quiet
theorem Quiet.examineRailsOf (h : Quiet s t) (p : BayNo → Bool) : Quiet s (examineRailsOf p t) := by
  refine h.forEach _ fun r u hu => ?_
  split <;> [exact hu.examineRail r; exact hu]
theorem Quiet.joinQueue (h : Quiet s t) (b : BayNo) : Quiet s (joinQueue b t) := ((h.setQueue _).rewriteQueue).examineRail _
theorem Quiet.moveInQueue (h : Quiet s t) (b : BayNo) : Quiet s (moveInQueue b t) :=
  ((h.setQueue _).rewriteQueue).examineRail _
theorem Quiet.leaveQueue (h : Quiet s t) (b : BayNo) : Quiet s (leaveQueue b t) := (h.setQueue _).rewriteQueue
theorem Quiet.takeRising (h : Quiet s t) (r : RailNo) : Quiet s (takeRising r t) := by
  unfold Machine.takeRising
  split <;> [exact h.setRail r _; exact (h.setRail r _).logEvent _]
theorem Quiet.endPause (h : Quiet s t) (r : RailNo) : Quiet s (endPause r t) := (h.setRail r _).logEvent _
theorem Quiet.takeFalling (h : Quiet s t) (r : RailNo) : Quiet s (takeFalling r t) := by
  unfold Machine.takeFalling
  split
  · split <;> [exact h.endPause r; exact h.setRail r _]
  · exact h
theorem Quiet.takeCrossing (h : Quiet s t) (r : RailNo) (w : Bool) : Quiet s (takeCrossing r w t) := by
  unfold Machine.takeCrossing
  split <;> [exact h.takeRising r; exact h.takeFalling r; exact h; exact h]
theorem Quiet.recomputeLimit (h : Quiet s t) (r : RailNo) : Quiet s (recomputeLimit r t) := by
  unfold Machine.recomputeLimit
  dsimp only
  split
  · exact h
  · exact ((((h.setRail r _).takeCrossing r _).evaluateOverLimit r).examineRail r).publishRail r
theorem Quiet.setLine (h : Quiet s t) (n : SupplyNo) (v : Line) : Quiet s (setLine n v t) := h.keep rfl rfl rfl rfl rfl rfl
theorem Quiet.changeSupply (h : Quiet s t) (v : SupplyState) : Quiet s (changeSupply v t) := by
  have h1 : Quiet s { t with ps := { t.ps with supply := v } } := h.keep rfl rfl rfl rfl rfl rfl
  have h2 := (h1.logEvent (eventSupplyChanged t.ps.supply v t.ps.lines[0].level t.ps.lines[1].level))
  exact ((h2.publish (publishes_rewriteLive _)).publish (publishes_noticeBoth _ noticePower_legal _)).forEach _
    fun r u hu => hu.recomputeLimit r
theorem Quiet.changeLine (h : Quiet s t) (n : SupplyNo) : Quiet s (changeLine n t) := by
  unfold Machine.changeLine
  dsimp only
  split <;> [exact (h.setLine n _).changeSupply _; exact h.setLine n _]
theorem Quiet.sampleSupply (h : Quiet s t) (g : BitVec 2) (n : SupplyNo) : Quiet s (sampleSupply g n t) := by
  unfold Machine.sampleSupply
  dsimp only
  split
  · exact h.setLine n _
  · split
    · exact h.setLine n _
    · split <;> [exact h.changeLine n; exact h]

/-! ### Order intake's finishes -/

theorem Quiet.noticePort (h : Quiet s t) (x : Port) (bits : Word) (hb : bits &&& ~~~noticeMask = 0) :
    Quiet s (noticePort x bits t) := h.publish (publishes_noticePort x bits hb t)
theorem Quiet.finishSlot (h : Quiet s t) (x : Port) (n : SlotNo) (o : Answer) : Quiet s (finishSlot x n o t) :=
  (((h.store _ _).store _ _).setContexts _).noticePort x _ (slotBit_legal n)
theorem Quiet.finishLingering (h : Quiet s t) (x : Port) (n : SlotNo) (o : Answer) : Quiet s (finishLingering x n o t) := by
  unfold Machine.finishLingering
  split <;> [exact h.finishSlot x n o; exact h]
theorem Quiet.releaseLink (h : Quiet s t) (x : Port) (n : SlotNo) (b : BayNo) : Quiet s (releaseLink x n b t) := by
  unfold Machine.releaseLink
  split <;> [exact (h.setBay b _).publishBay b; exact h]
theorem Quiet.finishLink (h : Quiet s t) (b : BayNo) (r : Result) : Quiet s (finishLink b r t) := by
  unfold Machine.finishLink
  split <;> [exact (h.finishLingering _ _ _).setBay b _; exact h]
theorem Quiet.endLingering (h : Quiet s t) (c : Context) (r : Result) : Quiet s (endLingering c r t) :=
  (h.finishSlot _ _ _).releaseLink _ _ _

/-! ### The bay controller -/

theorem Quiet.moveBay (h : Quiet s t) (b : BayNo) (v : BayState) : Quiet s (moveBay b v t) := h.setBay b _
theorem Quiet.moveHeld (h : Quiet s t) (b : BayNo) (v : Seated) : Quiet s (moveHeld b v t) := h.setBay b _
theorem Quiet.powerDown (h : Quiet s t) (b : BayNo) (v : Seated) (c : OffCause) : Quiet s (powerDown b v c t) :=
  ((h.setBay b _).handCharge b 0).logEvent _
theorem Quiet.insertBay (h : Quiet s t) (b : BayNo) : Quiet s (insertBay b t) := by
  have h1 := ((h.setBay b { t.bay b with debounce := none }).moveBay b (.seated .idle))
  unfold Machine.insertBay
  dsimp only
  split
  · exact ((((((h1.logEvent _).publishBay b).setBay b _).moveBay b _).publishBay b).joinQueue b)
  · exact (h1.logEvent _).publishBay b
theorem Quiet.removeBay (h : Quiet s t) (b : BayNo) (v : Seated) : Quiet s (removeBay b v t) := by
  unfold Machine.removeBay
  dsimp only
  have h1 : Quiet s (if v.powered then Machine.powerDown b v .removal t else t) := by
    split <;> [exact h.powerDown b v _; exact h]
  have h2 : Quiet s (if v = .queued then Machine.leaveQueue b (if v.powered then Machine.powerDown b v .removal t else t)
      else (if v.powered then Machine.powerDown b v .removal t else t)) := by
    split <;> [exact h1.leaveQueue b; exact h1]
  exact ((((((h2.setBay b _).finishLink b _).setBay b _).moveBay b _).logEvent _).publishBay b).examineIf _ b
theorem Quiet.losePresence (h : Quiet s t) (b : BayNo) (v : Seated) : Quiet s (losePresence b v t) :=
  (((h.setBay b _).moveBay b _).publishBay b).examineIf _ b
theorem Quiet.regainPresence (h : Quiet s t) (b : BayNo) (v : Seated) : Quiet s (regainPresence b v t) := by
  unfold Machine.regainPresence
  dsimp only
  have h1 := ((h.setBay b { t.bay b with debounce := none }).moveBay b (.seated v)).logEvent (eventGlitch b (.seated v))
  refine Quiet.examineIf (Quiet.publishBay ?_ b) _ b
  split <;> [exact h1.finishLink b _; exact h1]
theorem Quiet.applyPresence (h : Quiet s t) (b : BayNo) (p : Bool) : Quiet s (applyPresence b p t) := by
  unfold Machine.applyPresence
  split
  · exact h
  · split <;> [exact ((h.setBay b _).moveBay b _).publishBay b; exact h]
  · split
    · split <;> [exact h.insertBay b; exact h]
    · exact (((h.setBay b _).moveBay b _).logEvent _).publishBay b
  · split <;> [exact h; exact h.losePresence b _]
  · split
    · exact h.regainPresence b _
    · split <;> [exact h.removeBay b _; exact h]
theorem Quiet.faultPowered (h : Quiet s t) (b : BayNo) (v : Seated) : Quiet s (faultPowered b v t) := by
  unfold Machine.faultPowered
  dsimp only
  have h1 := h.powerDown b v .fault
  refine Quiet.examineIf (Quiet.publishBay ?_ b) _ b
  split
  · exact (((h1.setBay b _).setBay b _).moveBay b _).logEvent _
  · exact (((h1.setBay b _).moveBay b _).logEvent _).finishLink b _
theorem Quiet.faultLeaving (h : Quiet s t) (b : BayNo) (v : Seated) : Quiet s (faultLeaving b v t) :=
  ((((h.powerDown b v .fault).moveBay b _).logEvent _).publishBay b).examineIf _ b
theorem Quiet.applyFault (h : Quiet s t) (b : BayNo) (f : Bool) : Quiet s (applyFault b f t) := by
  unfold Machine.applyFault
  split
  · split
    · exact h
    · exact h
    · exact h
    · split <;> [exact h.faultPowered b _; exact h]
    · split <;> [exact h.faultLeaving b _; exact h]
  · exact h
theorem Quiet.sampleBay (h : Quiet s t) (f : ScanFrame) (b : BayNo) : Quiet s (sampleBay f b t) :=
  (h.applyPresence b _).applyFault b _
theorem Quiet.driveEnables (h : Quiet s t) : Quiet s (driveEnables t) := by
  unfold Machine.driveEnables
  exact h.keep rfl rfl rfl rfl rfl rfl
theorem Quiet.endSurge (h : Quiet s t) (b : BayNo) : Quiet s (endSurge b t) := by
  unfold Machine.endSurge
  dsimp only
  refine Quiet.examineIf (Quiet.publishBay ?_ b) _ b
  split
  · exact (((h.setBay b _).moveHeld b _).handCharge b _).logEvent _
  · exact ((((h.setBay b _).moveHeld b _).handCharge b _).logEvent _).finishLink b _
theorem Quiet.endCoolOff (h : Quiet s t) (b : BayNo) : Quiet s (endCoolOff b t) :=
  (((h.setBay b _).moveHeld b _).publishBay b).joinQueue b

/-! ### The drawers -/

theorem Quiet.moveDrawer (h : Quiet s t) (d : DrawerNo) (v : DrawerState) (e : Option Uptime) :
    Quiet s (moveDrawer d v e t) := (h.setDrawer d _).rewriteDrawer d
theorem Quiet.closeDrawer (h : Quiet s t) (d : DrawerNo) : Quiet s (closeDrawer d t) :=
  ((h.moveDrawer d _ _).logEvent _).examineRailsOf _
theorem Quiet.openDrawer (h : Quiet s t) (d : DrawerNo) : Quiet s (openDrawer d t) :=
  ((h.moveDrawer d _ _).logEvent _).examineRailsOf _
theorem Quiet.settleDrawer (h : Quiet s t) (d : DrawerNo) : Quiet s (settleDrawer d t) := by
  unfold Machine.settleDrawer
  dsimp only
  split <;> [exact (h.moveDrawer d _ _).closeDrawer d; exact h.moveDrawer d _ _]
theorem Quiet.changeDrawerLine (h : Quiet s t) (d : DrawerNo) : Quiet s (changeDrawerLine d t) := by
  unfold Machine.changeDrawerLine
  dsimp only
  split
  · exact (h.setDrawer d _).openDrawer d
  · exact (h.setDrawer d _).settleDrawer d
  · exact (h.setDrawer d _).moveDrawer d _ _
  all_goals exact h.setDrawer d _
theorem Quiet.sampleDrawer (h : Quiet s t) (c : BitVec 4) (d : DrawerNo) : Quiet s (sampleDrawer c d t) := by
  unfold Machine.sampleDrawer
  dsimp only
  split
  · exact h.setDrawer d _
  · split
    · exact h.setDrawer d _
    · split <;> [exact h.changeDrawerLine d; exact h]

/-! ### The temperature unit -/

theorem Quiet.sampleReports (h : Quiet s t) : Quiet s (sampleReports t) := by
  unfold Machine.sampleReports
  exact h.keep rfl rfl rfl rfl rfl rfl
theorem Quiet.handDriveTemp (h : Quiet s t) (b : BayNo) : Quiet s (handDriveTemp b t) := by
  unfold Machine.handDriveTemp
  split <;> [exact h; exact (h.setBay b _).publishBay b]
theorem Quiet.handSense (h : Quiet s t) (z : ZoneNo) : Quiet s (handSense z t) := by
  unfold Machine.handSense
  split <;> [exact h; exact (h.setZone z _).publishZone z]
theorem Quiet.endRoundZone (h : Quiet s t) (z : ZoneNo) : Quiet s (endRoundZone z t) := by
  unfold Machine.endRoundZone
  dsimp only
  split
  · exact ((h.setSense z _).logEvents _).handSense z
  · exact (((h.setSense z _).logEvents _).handSense z).examineRailsOf _
theorem Quiet.endRound (h : Quiet s t) : Quiet s (endRound t) := (h.setReading _).forEach _ fun z _ hu => hu.endRoundZone z
theorem Quiet.continueRound (h : Quiet s t) (n : Nat) : Quiet s (continueRound n t) := by
  unfold Machine.continueRound
  split <;> [exact h.setReading _; exact h.endRound]
theorem Quiet.startRound (h : Quiet s t) : Quiet s (startRound t) :=
  ((h.sampleReports).forEach _ fun b _ hu => hu.handDriveTemp b).continueRound 0
theorem Quiet.goodRead (h : Quiet s t) (n : SensorNo) (raw : BitVec 16) : Quiet s (goodRead n raw t) := by
  unfold Machine.goodRead
  dsimp only
  refine Quiet.publishSensor ?_ n
  split <;> [exact (h.setSensor n _).logEvent _; exact h.setSensor n _]
theorem Quiet.failedRead (h : Quiet s t) (n : SensorNo) (k : FailureKind) : Quiet s (failedRead n k t) := by
  unfold Machine.failedRead
  dsimp only
  split <;> [exact ((h.setSensor n _).logEvent _).publishSensor n; exact (h.setSensor n _).publishSensor n]
theorem Quiet.readOutcome (h : Quiet s t) (n : SensorNo) (o : ReadOutcome) : Quiet s (readOutcome n o t) := by
  cases o <;> [exact h.goodRead n _; exact h.failedRead n _; exact h.failedRead n _]

/-! ### The cooling controller and the fan monitor -/

theorem Quiet.handFanCharges (h : Quiet s t) : Quiet s (handFanCharges t) := by
  have h1 := h.forEach (List.finRange 4) (f := bookFans) fun r u hu => hu.setRail r _
  have h2 := h1.forEach (List.finRange 4) (f := Machine.evaluateOverLimit) fun r u hu => hu.evaluateOverLimit r
  have h3 := h2.forEach (List.finRange 4) (f := Machine.publishRail) fun r u hu => hu.publishRail r
  refine h3.forEach _ fun r u hu => ?_
  split <;> [exact hu.examineRail r; exact hu]
theorem Quiet.handFan (h : Quiet s t) (f : FanNo) : Quiet s (handFan f t) := by
  unfold Machine.handFan
  dsimp only
  split <;> [exact h; exact (h.setFan f _).publish (publishes_rewriteFanHanding f _)]
theorem Quiet.driveFans (h : Quiet s t) : Quiet s (driveFans t) := by
  unfold Machine.driveFans
  exact h.keep rfl rfl rfl rfl rfl rfl
theorem Quiet.coolingPeriod (h : Quiet s t) : Quiet s (coolingPeriod t) := by
  have h1 := h.forEach (List.finRange 4) (f := fun z u => u.setZone z (periodZone t z)) fun z u hu => hu.setZone z _
  have h2 := h1.driveFans.handFanCharges.forEach (List.finRange 12) (f := Machine.handFan) fun f u hu => hu.handFan f
  exact h2.forEach _ fun z u hu => hu.publishZone z
theorem Quiet.evaluateFan (h : Quiet s t) (f : FanNo) : Quiet s (evaluateFan f t) := by
  unfold Machine.evaluateFan
  dsimp only
  split <;> [exact ((h.setFan f _).logEvents _).publish (publishes_rewriteFan f _); exact h]

/-! ### The indicator engine -/

theorem Quiet.applyPending (h : Quiet s t) : Quiet s (applyPending t) := by
  unfold Machine.applyPending
  exact h.keep rfl rfl rfl rfl rfl rfl
theorem Quiet.sendFrame (h : Quiet s t) (cs : Vector Colour 96) : Quiet s (sendFrame cs t) := h.keep rfl rfl rfl rfl rfl rfl
theorem Quiet.setNextFrame (h : Quiet s t) (u : Uptime) : Quiet s (setNextFrame u t) := h.keep rfl rfl rfl rfl rfl rfl
theorem Quiet.handShown (h : Quiet s t) (cs : Vector Colour 96) (b : BayNo) : Quiet s (handShown cs b t) := by
  unfold Machine.handShown
  split <;> [exact h; exact (h.setBay b _).publishBay b]
theorem Quiet.refresh (h : Quiet s t) : Quiet s (refresh t) :=
  (h.applyPending.sendFrame _).forEach _ fun b _ hu => hu.handShown _ b
theorem Quiet.setLocate (h : Quiet s t) (b : BayNo) (v : Locate) : Quiet s (setLocate b v t) :=
  h.keep rfl rfl rfl rfl rfl rfl
theorem Quiet.setPending (h : Quiet s t) (n : PatternNo) (v : Option Pattern) : Quiet s (setPending n v t) :=
  h.keep rfl rfl rfl rfl rfl rfl
theorem Quiet.setLayer (h : Quiet s t) (x : Port) (b : BayNo) (v : PatternNo) : Quiet s (setLayer x b v t) := by
  cases x <;> exact h.keep rfl rfl rfl rfl rfl rfl
theorem Quiet.clearLayers (h : Quiet s t) (x : Port) : Quiet s (clearLayers x t) := by
  cases x <;> exact h.keep rfl rfl rfl rfl rfl rfl

/-! ### What the order kinds do at their owners -/

theorem Quiet.setHolder (h : Quiet s t) (v : Option Port) (b : BayNo) : Quiet s (setHolder v b t) :=
  (h.setBay b _).publishBay b
theorem Quiet.releaseClaims (h : Quiet s t) (x : Port) : Quiet s (releaseClaims x t) := by
  refine h.forEach _ fun b u hu => ?_
  dsimp only
  split <;> [exact (hu.setBay b _).publishBay b; exact hu]
theorem Quiet.decideClaim (h : Quiet s t) (x : Port) (l : List BayNo) : Quiet s (decideClaim x l t).1 := by
  unfold Machine.decideClaim
  split
  · exact h
  · split
    · exact h
    · dsimp only
      split <;> [exact h; exact h.forEach _ fun b _ hu => hu.setHolder _ b]
theorem Quiet.decideRelease (h : Quiet s t) (x : Port) (l : List BayNo) : Quiet s (decideRelease x l t).1 := by
  unfold Machine.decideRelease
  split <;> [exact h; exact h.forEach _ fun b _ hu => hu.setHolder _ b]
theorem Quiet.applyPowerOn (h : Quiet s t) (b : BayNo) (p : Fin 4) (f : ProfileNo) (l : Option (Port × SlotNo)) :
    Quiet s (applyPowerOn b p f l t) := h.setBay b _
theorem Quiet.powerOnSeated (h : Quiet s t) (b : BayNo) (v : Seated) (p : Fin 4) (f : ProfileNo)
    (l : Option (Port × SlotNo)) : Quiet s (powerOnSeated b v p f l t).1 := by
  have h1 := h.applyPowerOn b p f l
  unfold Machine.powerOnSeated
  cases v <;> try dsimp only
  · exact ((h1.moveBay b _).publishBay b).joinQueue b
  · split <;> (try dsimp only) <;> [exact (h1.publishBay b).examineIf _ b; exact (h1.publishBay b).moveInQueue b]
  · exact h1.publishBay b
  · exact h1.publishBay b
  · exact h1.publishBay b
  · exact h
theorem Quiet.startLinger (h : Quiet s t) (x : Port) (n : SlotNo) (l : Nat) : Quiet s (startLinger x n l t) :=
  h.setContexts _
theorem Quiet.decidePowerOn (h : Quiet s t) (x : Port) (n : SlotNo) (b : BayNo) (p : Fin 4) (f : Nat) (w : Bool) (l : Nat) :
    Quiet s (decidePowerOn x n b p f w l t).1 := by
  unfold Machine.decidePowerOn Machine.bayAnswer
  dsimp only
  split <;> try dsimp only
  · exact h
  · exact h
  · exact h
  · exact h
  · split <;> try dsimp only
    · exact h
    · split <;> try dsimp only
      · exact h.powerOnSeated b _ p _ _
      · split <;> try dsimp only
        · exact h
        · split <;> try dsimp only
          · exact (h.applyPowerOn b p _ _).publishBay b
          · exact (h.startLinger x n l).powerOnSeated b _ p _ _
theorem Quiet.powerOffHeld (h : Quiet s t) (b : BayNo) (v : Seated) : Quiet s (powerOffHeld b v t).1 := by
  unfold Machine.powerOffHeld
  cases v <;> try dsimp only
  · exact h
  · exact (h.leaveQueue b).moveHeld b _
  · exact (h.powerDown b _ _).moveHeld b _
  · exact (h.powerDown b _ _).moveHeld b _
  · exact (h.setBay b _).moveHeld b _
  · exact h
theorem Quiet.carryPowerOff (h : Quiet s t) (b : BayNo) (v : Seated) : Quiet s (carryPowerOff b v t).1 := by
  unfold Machine.carryPowerOff
  exact (((h.powerOffHeld b v).finishLink b _).publishBay b).examineIf _ b
theorem Quiet.decidePowerOff (h : Quiet s t) (b : BayNo) : Quiet s (decidePowerOff b t).1 := by
  unfold Machine.decidePowerOff Machine.bayAnswer
  split <;> try dsimp only
  · exact h
  · exact h
  · exact h
  · exact h.carryPowerOff b _
  · exact h.carryPowerOff b _
theorem Quiet.clearHeld (h : Quiet s t) (x : Port) (b : BayNo) (v : Option Seated) : Quiet s (clearHeld x b v t).1 := by
  have h1 : Quiet s (clearRetries b t) := h.setBay b _
  unfold Machine.clearHeld
  dsimp only
  split <;> try dsimp only
  · exact ((h1.moveHeld b _).logEvent _).publishBay b
  · exact ((h1.setBay b _).moveHeld b _).publishBay b
  all_goals exact h1.publishBay b
theorem Quiet.decideClear (h : Quiet s t) (x : Port) (b : BayNo) : Quiet s (decideClear x b t).1 := by
  unfold Machine.decideClear
  dsimp only
  split <;> [exact h; exact h.clearHeld x b _]
theorem Quiet.decidePolicy (h : Quiet s t) (l : List BayNo) (p : Policy) : Quiet s (decidePolicy l p t).1 := by
  unfold Machine.decidePolicy
  split
  · exact h
  · split <;> [exact h; exact h.forEach _ fun b _ hu => (hu.setBay b _).publishBay b]
theorem Quiet.decideProfile (h : Quiet s t) (p : ProfileNo) (v : Profile) : Quiet s (decideProfile p v t).1 := by
  have h1 : Quiet s (putProfile p v t) := h.keep rfl rfl rfl rfl rfl rfl
  unfold Machine.decideProfile
  split
  · exact h
  · split <;> [exact h; exact (h1.publish (publishes_rewriteProfiles _)).examineRailsOf _]
theorem Quiet.decideLimit (h : Quiet s t) (r : RailNo) (d i : Nat) : Quiet s (decideLimit r d i t).1 := by
  unfold Machine.decideLimit
  dsimp only
  exact ((h.setRail r _).recomputeLimit r).publishRail r
theorem Quiet.decideIndication (h : Quiet s t) (x : Port) (l : List BayNo) (p : Nat) : Quiet s (decideIndication x l p t).1 := by
  unfold Machine.decideIndication
  split <;> [exact h; exact h.forEach _ fun b _ hu => hu.setLayer x b _]
theorem Quiet.decideLocate (h : Quiet s t) (b : BayNo) (a d : Nat) : Quiet s (decideLocate b a d t).1 := by
  unfold Machine.decideLocate
  dsimp only
  split
  · exact h
  · split <;> split <;> [exact h; exact h.setLocate b _; exact h; exact h.setLocate b _]
theorem Quiet.decidePattern (h : Quiet s t) (n : PatternNo) (g : Nat → Nat) : Quiet s (decidePattern n g t).1 := by
  unfold Machine.decidePattern
  dsimp only
  split
  · exact h
  · split
    · exact h
    · split <;> [exact h; exact h.setPending n _]
theorem Quiet.decideCurve (h : Quiet s t) (z : ZoneNo) (g : Nat → Nat) : Quiet s (decideCurve z g t).1 := by
  unfold Machine.decideCurve
  dsimp only
  split <;> try dsimp only
  · split <;> (try dsimp only) <;> [exact h; exact (h.setZone z _).publishZone z]
  · exact h
theorem Quiet.decideOverride (h : Quiet s t) (x : Port) (z : ZoneNo) (a d e : Nat) :
    Quiet s (decideOverride x z a d e t).1 := by
  unfold Machine.decideOverride Machine.putOverride
  dsimp only
  split <;> try dsimp only
  · exact h
  · split <;> try dsimp only
    · exact (h.setZone z _).publishZone z
    · split <;> (try dsimp only) <;> [exact (h.setZone z _).publishZone z; exact h]
theorem Quiet.decideCancel (h : Quiet s t) (x : Port) (n : SlotNo) : Quiet s (decideCancel x n t).1 := by
  unfold Machine.decideCancel
  split <;> [exact h.endLingering _ _; exact h]

theorem Quiet.routeOrder (h : Quiet s t) (c : Context) : Quiet s (routeOrder c t).1 := by
  unfold Machine.routeOrder Machine.finished
  dsimp only
  split <;> try dsimp only
  · exact h.decideClaim _ _
  · exact h.decideRelease _ _
  · exact h.decidePowerOn _ _ _ _ _ _ _
  · exact h.decidePowerOff _
  · exact h.decideClear _ _
  · exact h.decidePolicy _ _
  · exact h.decideProfile _ _
  · exact h.decideIndication _ _ _
  · exact h.decideLocate _ _ _
  · exact h.decidePattern _ _
  · exact h.decideCurve _ _
  · exact h.decideOverride _ _ _ _ _
  · exact h.decideLimit _ _ _
  · exact h.decideCancel _ _
  · exact h

/-- Deciding an order, whatever it is, is quiet (R148 to R154). -/
theorem Quiet.decideOrder (h : Quiet s t) (c : Context) : Quiet s (decideOrder c t) := by
  unfold Machine.decideOrder
  split
  · exact h.finishSlot _ _ _
  · split
    · exact h.finishSlot _ _ _
    · split
      · exact h.finishSlot _ _ _
      · dsimp only
        split <;> [exact (h.routeOrder c).finishSlot _ _ _; exact h.routeOrder c]

end Sys2Proof.Machine
end

