-- ==== Sys2Proof/Laws/Orders.lean ====
section
/-! SUPPORT. An order posted alone: what its slot holds, which post order intake chooses, and that the order is then decided from
the context of its slot. -/

namespace Sys2Proof.Machine

/-! ### The bit of a slot -/

theorem slotBit_bit (n : SlotNo) (k : Nat) : (slotBit n).getLsbD k = decide (n.val = k) := by
  have hn := n.isLt
  rw [slotBit, registerBit, BitVec.getLsbD_ofNat, Nat.testBit_two_pow]
  by_cases h : n.val = k
  · simp [h]
    omega
  · simp [h]

theorem slotBit_postMask (n : SlotNo) : slotBit n &&& postMask = slotBit n := by revert n; decide

/-! ### A slot after its order is posted -/

/-- The memory of a posted order: the kind, the twenty argument bytes and POSTED, every other byte as before. -/
theorem postOrder_xm (x : Port) (n : SlotNo) (kind : Byte) (bytes : List Byte) (s : State) :
    (postOrder x n kind bytes s).xm =
      Memory.write (Memory.write (Memory.write s.xm (slotBase x n + 1) [kind]) (slotBase x n + 4) (argsOf bytes).toList)
        (slotBase x n) [slotPosted] := by
  simp [postOrder, writePost]

theorem postOrder_slotState (x : Port) (n : SlotNo) (kind : Byte) (bytes : List Byte) (s : State) :
    slotState (postOrder x n kind bytes s) x n = slotPosted := by
  simp [slotState, postOrder_xm, Memory.read_write]

theorem postOrder_kind (x : Port) (n : SlotNo) (kind : Byte) (bytes : List Byte) (s : State) :
    Memory.read (postOrder x n kind bytes s).xm (slotBase x n + 1) = kind := by
  simp [postOrder_xm, Memory.read_write]

theorem postOrder_args (x : Port) (n : SlotNo) (kind : Byte) (bytes : List Byte) (s : State) :
    Memory.readRun (postOrder x n kind bytes s).xm (slotBase x n + 4) 20 = (argsOf bytes).toList := by
  rw [postOrder_xm, Memory.readRun_write_disjoint (by simp)]
  have h := Memory.readRun_write_same (Memory.write s.xm (slotBase x n + 1) [kind]) (slotBase x n + 4) (argsOf bytes).toList
  simpa using h

theorem argsOf_toList (v : Vector Byte 20) : argsOf v.toList = v := by
  apply Vector.ext
  intro i hi
  simp [argsOf]

theorem postOrder_tag (x : Port) (n : SlotNo) (kind : Byte) (bytes : List Byte) (s : State) :
    slotTag (postOrder x n kind bytes s) x n = slotTag s x n := by
  rw [slotTag, slotTag, postOrder_xm, Memory.readRun_write_disjoint (by simp), Memory.readRun_write_disjoint (by simp),
    Memory.readRun_write_disjoint (by simp)]

/-- The context that the take of a posted order makes (R147). -/
theorem contextFrom_postOrder (x : Port) (n : SlotNo) (kind : Byte) (bytes : List Byte) (s : State) :
    contextFrom x n (postOrder x n kind bytes s) =
      { port := x, slot := n, kind := kind, tag := slotTag s x n, args := argsOf bytes, takenAt := s.uptime, linger := none } := by
  simp [contextFrom, postOrder_kind, postOrder_tag, postOrder_args, argsOf_toList]
  simp [postOrder, writePost]

theorem postOrder_contextOf (x : Port) (n : SlotNo) (kind : Byte) (bytes : List Byte) (s : State) :
    contextOf (postOrder x n kind bytes s) x n = contextOf s x n := by
  simp [contextOf, postOrder, writePost]

theorem postOrder_post (x : Port) (n : SlotNo) (kind : Byte) (bytes : List Byte) (s : State) (h : (s.port x).post = 0) :
    ((postOrder x n kind bytes s).port x).post = slotBit n := by
  simp [postOrder, writePost, h, slotBit_postMask]

theorem postOrder_other (x : Port) (n : SlotNo) (kind : Byte) (bytes : List Byte) (s : State) :
    (postOrder x n kind bytes s).port (otherPort x) = s.port (otherPort x) := by
  simp [postOrder, writePost]

theorem postOrder_turn (x : Port) (n : SlotNo) (kind : Byte) (bytes : List Byte) (s : State) :
    (postOrder x n kind bytes s).oi.turn = s.oi.turn := by
  simp [postOrder, writePost]

theorem lowestPost_none {s : State} {x : Port} (h : (s.port x).post = 0) : lowestPost s x = none := by
  simp [lowestPost, posted, h]

theorem lowestPost_only {s : State} {x : Port} {n : SlotNo} (h : (s.port x).post = slotBit n) : lowestPost s x = some n := by
  unfold lowestPost
  rw [List.find?_eq_some_iff_append]
  refine ⟨by simp [posted, h, slotBit_bit], ?_⟩
  obtain ⟨l, m, hl⟩ := List.append_of_mem (List.mem_finRange n)
  refine ⟨l, m, hl, fun k hk => ?_⟩
  have hne : k ≠ n := by
    rintro rfl
    have hd := List.nodup_finRange 24
    rw [hl, List.nodup_append] at hd
    exact hd.2.2 k hk k (by simp) rfl
  simp [posted, h, slotBit_bit, Fin.val_inj, Ne.symm hne]

/-- With no other post set, order intake chooses the order just posted (R146). -/
theorem nextPost_postOrder (x : Port) (n : SlotNo) (kind : Byte) (bytes : List Byte) (s : State)
    (h : (s.port x).post = 0) (h' : (s.port (otherPort x)).post = 0) :
    nextPost (postOrder x n kind bytes s) = some (x, n) := by
  have h1 := lowestPost_only (postOrder_post x n kind bytes s h)
  have h2 : lowestPost (postOrder x n kind bytes s) (otherPort x) = none :=
    lowestPost_none (by rw [postOrder_other]; exact h')
  unfold nextPost
  rw [postOrder_turn]
  cases x <;> cases ht : s.oi.turn <;> simp_all [otherPort]

/-! ### The handling of a posted order -/

theorem intakeUntil_posted {k : Nat} {x : Port} {n : SlotNo} {s : State} (h : posted s x n = true) :
    intakeUntil (k + 1) x n s = intakeUntil k x n (takeNextPost s) := by
  rw [intakeUntil, if_pos h]

theorem intakeUntil_done {k : Nat} {x : Port} {n : SlotNo} {s : State} (h : posted s x n = false) :
    intakeUntil k x n s = s := by
  cases k with
  | zero => rfl
  | succ k => rw [intakeUntil, if_neg (by simp [h])]

/-- An order posted with no other post set, in a slot without a taken order, is taken and decided, and the next turn is the
other port's (R145 to R147). -/
theorem commandOrder_alone (x : Port) (n : SlotNo) (kind : Byte) (bytes : List Byte) (s : State) (hr : s.phase = .running)
    (h : (s.port x).post = 0) (h' : (s.port (otherPort x)).post = 0) (hc : contextOf s x n = none) :
    commandOrder x n kind bytes s =
      passTurn x
        (decideOrder
          { port := x, slot := n, kind := kind, tag := slotTag s x n, args := argsOf bytes, takenAt := s.uptime, linger := none }
          (takeSlot x n (postOrder x n kind bytes s))) := by
  have hp : posted (postOrder x n kind bytes s) x n = true := by
    simp [posted, postOrder_post x n kind bytes s h, slotBit_bit]
  have ht : takeNextPost (postOrder x n kind bytes s) =
      passTurn x
        (decideOrder
          { port := x, slot := n, kind := kind, tag := slotTag s x n, args := argsOf bytes, takenAt := s.uptime, linger := none }
          (takeSlot x n (postOrder x n kind bytes s))) := by
    simp [takeNextPost, nextPost_postOrder x n kind bytes s h h', handlePost, postOrder_contextOf, hc, postOrder_slotState,
      contextFrom_postOrder]
  have hq : posted (takeNextPost (postOrder x n kind bytes s)) x n = false := by
    rw [ht]
    have hk := (Quiet.refl (takeSlot x n (postOrder x n kind bytes s))).decideOrder
      { port := x, slot := n, kind := kind, tag := slotTag s x n, args := argsOf bytes, takenAt := s.uptime, linger := none }
    have hport := (hk.port x).post
    have hpass : ∀ u : State, (passTurn x u).port x = u.port x := fun u => by cases x <;> rfl
    simp only [posted, hpass, hport]
    simp [takeSlot, clearPost, slotBit_bit]
  rw [commandOrder, hr]
  exact (intakeUntil_posted hp).trans ((intakeUntil_done hq).trans ht)

end Sys2Proof.Machine
end

