-- ==== Sys2Proof/Tests/Slice0.lean ====
section
/-! SUPPORT. Tests: ill-formed commands that WellFormed refuses, worked values of the spec, and, for every statement of
Certificates/Slice0/Obligations.lean that has hypotheses, a state and operands that meet them. -/

namespace Sys2Proof.Machine

/-! ### WellFormed and Decode -/

/-- An image longer than the image area is refused. -/
theorem test_image_too_long_is_ill_formed :
    (Instr.endOfLoading (List.replicate 4097 0) { presence := 0, fault := 0, feedback := 0 } 0 0).wellFormed = false := by
  rw [Instr.wellFormed, List.length_replicate]
  decide

/-- A four-byte write that crosses a word is refused, and one inside a word is not (R139). -/
theorem test_crossing_write_is_ill_formed :
    (Instr.windowWrite .a 0x0102 (.word 7)).wellFormed = false ∧ (Instr.windowWrite .a 0x0103 (.half 7)).wellFormed = false ∧
      (Instr.windowWrite .a 0x0102 (.half 7)).wellFormed = true := by decide

/-- No row of the table gives bits, so no word spells a command. -/
theorem test_no_word_decodes : decodeTableWord 0 0 = none ∧ decodeTableWord 32 0xFFFFFFFF = none := by decide

/-! ### Worked values of the spec -/

/-- The curve table of section 5.9, and its two further curves. -/
theorem test_curve_at_its_edges :
    ([-80, 50, 51, 70, 71, 77, 89, 90, 300].map fun t =>
      curveValue [{ temp := 50, duty := 64 }, { temp := 70, duty := 128 }, { temp := 90, duty := 255 }] t) =
        [64, 64, 68, 128, 135, 173, 249, 255, 255] ∧
      ([-80, 60, 300].map fun t => curveValue [{ temp := 60, duty := 150 }] t) = [150, 150, 150] ∧
      ([55, 65].map fun t =>
        curveValue [{ temp := 40, duty := 100 }, { temp := 60, duty := 100 }, { temp := 80, duty := 200 }] t) =
        [100, 125] := by decide

/-- Section 5.9: equal temperatures and falling duties make no valid curve. -/
theorem test_disordered_curves_are_refused :
    validCurve [{ temp := 40, duty := 100 }, { temp := 40, duty := 150 }] = false ∧
      validCurve [{ temp := 40, duty := 150 }, { temp := 60, duty := 100 }] = false := by decide

/-- Section 2.10: a fan of idle 20 ca and full 300 ca is charged 122 ca at duty 182 and 226 ca at duty 230. -/
theorem test_fan_charges :
    fanCharge { fitted := true, zone := 1, rail := 0, pulses := 2, idle := 20, full := 300, minRpm := 1000 } 182 = 122 ∧
      fanCharge { fitted := true, zone := 1, rail := 0, pulses := 2, idle := 20, full := 300, minRpm := 1000 } 230 =
        226 := by decide

/-- Section 2.10: the trip level at level code 5 is 1320 ca at a limit of 1200 ca and 3300 ca at 3000 ca. -/
theorem test_trip_levels : tripLevel 1200 5 = 1320 ∧ tripLevel 3000 5 = 3300 := by decide

/-- R35: a join goes behind its own priority and ahead of the lower one. -/
theorem test_join_place :
    insertEntry { bay := 9, priority := 2 } [{ bay := 1, priority := 3 }, { bay := 2, priority := 2 }, { bay := 3, priority := 1 }] =
      [{ bay := 1, priority := 3 }, { bay := 2, priority := 2 }, { bay := 9, priority := 2 }, { bay := 3, priority := 1 }] := by
  decide

/-- R4: a frame of a chain lasts 74 clock periods, with BSC_LOAD high in the first and the last, and 72 of them carry bits. -/
theorem test_chain_frame :
    chainStrobe.length = 74 ∧ chainStrobe.head? = some true ∧ chainStrobe.getLast? = some true ∧
      (chainStrobe.filter id).length = 2 ∧ (chainOutput (Vector.replicate 96 true) 3).length = 72 := by decide

/-- R68, R69: the first byte on the wire is the more significant; raw readings of 616, −1000 and −3 give 77, −125 and −1 h°C before
the clamp. -/
theorem test_raw_readings :
    [rawReading 0x02 0x68, rawReading 0xFC 0x18, rawReading 0xFF 0xFD].map (fun r => (r.toInt, rawToTemp r.toInt)) =
      [(616, 77), (-1000, -125), (-3, -1)] := by decide

/-- R68: a good read of the sensor at address 0x48, a read whose address is not acknowledged after the repeated start, and the
recovery. -/
theorem test_sensor_line :
    let d : SensorDesc := { fitted := true, address := 0x48, zone := 0 }
    sensorReadTraffic d (.good 0x02 0x68) =
        [.start, .send 0x90 true, .send 0x00 true, .repeatedStart, .send 0x91 true, .receive 0x02 true, .receive 0x68 false,
          .stop] ∧
      sensorReadTraffic d (.addressNack .read) =
        [.start, .send 0x90 true, .send 0x00 true, .repeatedStart, .send 0x91 false, .stop] ∧
      busRecovery.count .clockPulse = 9 ∧ busRecovery.head? = some .releaseData ∧ busRecovery.getLast? = some .stop := by decide

/-! ### Small states -/

/-- The state after a command. -/
def after (c : Instr) (s : State) : State :=
  match exec c s with
  | .next t => t
  | .fault _ => s
  | .refused _ => s

/-- Normal work at uptime 100000, with nothing in the bays. -/
def normal : State := { State.reset with uptime := 100000, dl := { State.reset.dl with phase := .running, csN := true } }

/-- Normal work with one bay's entry changed. -/
def normalBay (b : BayNo) (f : Bay → Bay) : State := normal.setBay b (f (normal.bay b))

/-- Normal work with one drawer's entry changed. -/
def normalDrawer (d : DrawerNo) (f : Drawer → Drawer) : State := normal.setDrawer d (f (normal.drawer d))

/-- Normal work with one rail's entry changed. -/
def normalRail (r : RailNo) (f : Rail → Rail) : State := normal.setRail r (f (normal.rail r))

/-- Normal work with both ports LIVE. -/
def live : State :=
  (normal.setPort .a { normal.port .a with state := .live, silenceEnd := some 105000 }).setPort .b
    { normal.port .b with state := .live, silenceEnd := some 105000 }

/-- Both ports LIVE, with one bay's entry changed. -/
def liveBay (b : BayNo) (f : Bay → Bay) : State := live.setBay b (f (live.bay b))

/-- A frame of empty bays. -/
def noFrame : ScanFrame := { presence := 0, fault := 0, feedback := 0 }

/-- A lingering power-on of port A for bay 7 in slot 3, which expires at uptime 100000. -/
def waiting : Context :=
  { port := .a, slot := 3, kind := kindBayPowerOn, tag := 0, args := (Vector.replicate 20 0).set 0 7, takenAt := 99000,
    linger := some { limit := 1, expiry := some 100000 } }

theorem test_normal_bays_are_absent : ∀ b : BayNo, (normal.bay b).state = .absent := by
  intro b
  simp [normal, State.bay, State.reset, resetBay]

theorem test_normal_bay_others (b c : BayNo) (g : Bay → Bay) (h : c ≠ b) : (normalBay b g).bay c = normal.bay c :=
  State.bay_setBay_ne _ (Ne.symm h) _

/-! ### Hypotheses that are met: time and start-up -/

theorem test_meets_step_frame :
    ({ State.reset with pending := [] } : State).pending = [] ∧ normal.phase ≠ .inReset := by decide

theorem test_meets_end_of_loading :
    State.reset.phase = .loading ∧ State.reset.dl.resetKind = .powerOn ∧
      ({ State.reset with dl := { State.reset.dl with resetKind := .pin } } : State).dl.resetKind = .pin := by decide

/-- The bytes that a read of an image returns. -/
def readOf (image : List Byte) (k : Nat) : Nat := (image.getD k 0xFF).toNat

/-- A header with a bay count and a length, then zeros to a checksum. -/
def imageOf (version bays : Byte) (length zeroBytes : Nat) (sum : List Byte) : List Byte :=
  [0xA5, 0x3C, version, bays] ++ le16 length ++ [0, 0] ++ List.replicate zeroBytes 0 ++ sum

/-- Each check fails first on some image: no device, a wrong signature, version 2, lengths 63 and 4097, a wrong sum, no bays. -/
theorem test_meets_rejections :
    (∀ q : DescReason, q.code < DescReason.noResponse.code → ¬ checkFails (readOf []) q) ∧
      checkFails (readOf []) .noResponse ∧ ¬ checkFails (readOf [0xA5, 0]) .noResponse ∧
      checkFails (readOf [0xA5, 0]) .badSignature ∧ ¬ checkFails (readOf (imageOf 2 1 64 0 [])) .badSignature ∧
      checkFails (readOf (imageOf 2 1 64 0 [])) .badVersion ∧ ¬ checkFails (readOf (imageOf 1 1 63 0 [])) .badVersion ∧
      checkFails (readOf (imageOf 1 1 63 0 [])) .badLength ∧ checkFails (readOf (imageOf 1 1 4097 0 [])) .badLength ∧
      ¬ checkFails (readOf (imageOf 1 1 64 54 [0, 0])) .badLength ∧
      checkFails (readOf (imageOf 1 1 64 54 [0, 0])) .badChecksum ∧
      ¬ checkFails (readOf (imageOf 1 0 64 54 [0x22, 0x01])) .badChecksum ∧
      checkFails (readOf (imageOf 1 0 64 54 [0x22, 0x01])) .badStructure := by
  refine ⟨fun q hq => ?_, ?_, ?_, ?_, ?_, ?_, ?_, ?_, ?_, ?_, ?_, ?_, Or.inl rfl⟩
  · cases q <;> simp [DescReason.code, checkFails] at hq ⊢
  all_goals simp only [checkFails]; decide

/-- An image of 64 bytes passes every check, gives the enclosure section alone, and has no field out of its range. -/
theorem test_meets_valid_image :
    let g := readOf (imageOf 1 96 64 54 [0x82, 0x01])
    (∀ r : DescReason, ¬ checkFails g r) ∧ given g 0x0008 0x30 ∧ ¬ given g 0x0040 0x300 ∧ ¬ fieldOut g := by
  have h (o n : Nat) (hl : 62 < o + n) : ¬ given (readOf (imageOf 1 96 64 54 [0x82, 0x01])) o n := fun k =>
    absurd (Nat.lt_of_lt_of_le hl k.2) (by decide)
  refine ⟨fun r => ?_, by unfold given; decide, h _ _ (by decide), ?_⟩
  · cases r with
    | badStructure =>
      simp only [checkFails, structureFails, h _ _ (by decide : 62 < 0x0040 + 0x300), h _ _ (by decide : 62 < 0x03C0 + 0xC0),
        h _ _ (by decide : 62 < 0x0540 + 0x40), h _ _ (by decide : 62 < 0x0480 + 0xC0)]
      decide
    | _ => simp only [checkFails]; decide
  · rintro (⟨k, _⟩ | ⟨k, _⟩ | ⟨k, _⟩ | ⟨k, _⟩ | ⟨k, _⟩ | ⟨k, _⟩ | ⟨k, _⟩ | ⟨k, _⟩ | ⟨k, _⟩) <;> exact h _ _ (by decide) k

theorem test_image_reads_zero (v b : Byte) (len n j : Nat) (sum : List Byte) (h : j < n) :
    readOf (imageOf v b len n sum) (8 + j) = 0 := by
  have hl : ([0xA5, 0x3C, v, b] ++ le16 len ++ [0, 0] : List Byte).length = 8 := rfl
  rw [readOf, imageOf, List.append_assoc, List.getD_eq_getElem?_getD, List.getElem?_append_right (by rw [hl]; omega), hl,
    Nat.add_sub_cancel_left, List.getElem?_append_left (by rw [List.length_replicate]; exact h), List.getElem?_replicate, if_pos h]
  rfl

theorem test_image_sum (v b : Byte) (len n : Nat) (sum : List Byte) :
    ((List.range (8 + n)).map (readOf (imageOf v b len n sum))).sum =
      ((List.range 8).map (readOf (imageOf v b len n sum))).sum := by
  rw [List.range_add, List.map_append, List.sum_append, List.sum_eq_zero (l := List.map _ (List.map _ _)), Nat.add_zero]
  intro x hx
  obtain ⟨_, hy, rfl⟩ := List.mem_map.mp hx
  obtain ⟨j, hj, rfl⟩ := List.mem_map.mp hy
  exact test_image_reads_zero v b len n j sum (List.mem_range.mp hj)

theorem test_image_length (v b : Byte) (len n : Nat) (sum : List Byte) :
    fieldAt (readOf (imageOf v b len n sum)) 4 = (byteOf len).toNat + 256 * (byteOf (len / 256)).toNat := rfl

theorem test_image_tail (v b x y : Byte) (len n : Nat) :
    fieldAt (readOf (imageOf v b len n [x, y])) (8 + n) = x.toNat + 256 * y.toNat := by
  have hl : ([0xA5, 0x3C, v, b] ++ le16 len ++ [0, 0] ++ List.replicate n 0 : List Byte).length = 8 + n := by
    rw [List.length_append, List.length_replicate]; rfl
  have hk (k : Nat) : readOf (imageOf v b len n [x, y]) (8 + n + k) = ([x, y].getD k 0xFF).toNat := by
    rw [readOf, imageOf, List.getD_eq_getElem?_getD, List.getElem?_append_right (by rw [hl]; omega), hl,
      Nat.add_sub_cancel_left, List.getD_eq_getElem?_getD]
  rw [fieldAt, hk 1, show 8 + n = 8 + n + 0 from rfl, hk 0]
  rfl

/-- An image that gives every section, of 48 bays of which none is fitted and zeros elsewhere, passes every check, and has fields out
of their ranges. -/
theorem test_meets_clamped_image :
    let g := readOf (imageOf 1 48 0x09A2 2456 [0xBD, 0x01])
    (∀ r : DescReason, ¬ checkFails g r) ∧ given g 0x0008 0x30 ∧ given g 0x0040 0x300 ∧ given g 0x0980 0x20 ∧ fieldOut g := by
  intro g
  have hL : fieldAt g 4 = 0x09A2 := (test_image_length ..).trans (by decide)
  have z (k : Nat) (h : 8 ≤ k) (h2 : k < 2464) : g k = 0 := by
    obtain ⟨j, rfl⟩ := Nat.exists_eq_add_of_le h
    exact test_image_reads_zero _ _ _ _ _ _ (by omega)
  have hg (o n : Nat) (h : 8 ≤ o) (h2 : o + n ≤ 2464) : given g o n := ⟨h, by rw [hL]; exact h2⟩
  have he (o n k : Nat) (i : Nat) (h : 8 ≤ o) (h2 : o + n * i + k < 2464) : entryAt g o n i k = 0 := z _ (by omega) h2
  have hb : g 3 = 48 := rfl
  refine ⟨fun r => ?_, hg _ _ (by decide) (by decide), hg _ _ (by decide) (by decide), hg _ _ (by decide) (by decide),
    Or.inl ⟨hg _ _ (by decide) (by decide), 0, ?_⟩⟩
  · cases r with
    | none => exact id
    | noResponse => rintro (h | h) <;> exact absurd (h 1) (by decide)
    | badSignature => rintro (h | h) <;> exact h rfl
    | badVersion => exact fun h => h rfl
    | badLength => rw [checkFails, hL]; decide
    | badChecksum =>
      refine fun h => h ?_
      rw [hL]
      exact (congrArg (· % 65536) (test_image_sum 1 48 0x09A2 2456 _)).trans
        (Eq.trans (by rfl) (test_image_tail 1 48 0xBD 0x01 0x09A2 2456).symm)
    | badStructure =>
      rintro (h | h | ⟨_, b, _, h, _⟩ | ⟨_, f, h, _⟩ | ⟨_, n, h, _⟩ | ⟨_, w, h⟩ | ⟨_, w, i, h, _⟩)
      · omega
      · omega
      · exact h (he _ _ _ _ (by decide) (by omega))
      · exact h (he _ _ _ _ (by decide) (by omega))
      · exact h (he _ _ _ _ (by decide) (by omega))
      · rw [List.filter_eq_nil_iff.mpr] at h
        · simp at h
        · intro b _
          have := he 0x0040 8 0 b.val (by decide) (by omega)
          simp [this]
      · rw [pointCount, he _ _ _ _ (by decide) (by omega)] at h
        omega
  · exact Or.inr (Or.inr (Or.inr (Or.inr (Or.inl (by rw [he _ _ _ _ (by decide) (by decide)]; decide)))))

/-- Normal work with empty bays meets the premises of the invariants, and steps. -/
theorem test_meets_invariants :
    memoryCanonical normal ∧ registersLegal normal ∧ queueAgrees normal ∧ switchesAgree normal ∧ claimsLive normal ∧
      dutiesBounded normal ∧ linksAgree normal ∧ retriesBounded normal ∧ step normal = .next normal := by
  have hb (b : BayNo) : normal.bay b = { resetBay b with state := .absent } := by
    simp [normal, State.bay, State.reset, resetBay]
  refine ⟨by show Memory.wf _ = true; decide, fun x => by cases x <;> decide,
    ⟨List.nodup_nil, List.Pairwise.nil, fun b => ?_, nofun⟩, fun _ b => ?_, fun b x => ?_,
    by show ∀ z : ZoneNo, _; decide, ⟨List.nodup_nil, nofun, fun b l => ?_⟩, fun b => ?_, rfl⟩ <;> rw [hb b] <;>
    simp [normal, State.reset, resetBay, BayState.held, BayState.powered]

/-- The clock and the strobe of the scan chains stand low in normal work and after reset. -/
theorem test_meets_chain_lines : normal.bc.chain = ChainLines.low ∧ State.reset.bc.chain = ChainLines.low := by decide

/-- DSC_CS_N stands low in LOADING and high in normal work. -/
theorem test_meets_description_line :
    (State.reset.dl.csN = false ↔ State.reset.phase = .loading) ∧
      (normal.dl.csN = false ↔ normal.phase = .loading) := by decide

/-- A bay LOCKED one above its retry limit, and a bay QUEUED at its limit, meet the bound of the retry counts. -/
theorem test_meets_retry_bound :
    retriesBounded (normalBay 95 fun v => { v with state := .seated .locked, retries := 3 }) ∧
      retriesBounded (normalBay 95 fun v => { v with state := .seated .queued, retries := 2 }) := by
  have hn (g : Bay → Bay) (b : BayNo) (h : b ≠ 95) : ((normalBay 95 g).bay b).retries = 0 := by
    rw [test_normal_bay_others 95 b g h]
    simp [normal, State.bay, State.reset, resetBay]
  constructor <;> intro b <;> refine ⟨fun _ => ?_, fun h => absurd rfl h⟩ <;> by_cases h : b = 95
  · subst h; decide
  · rw [hn _ b h]; exact ⟨Nat.zero_le _, fun h => absurd h (Nat.not_lt_zero _)⟩
  · subst h; decide
  · rw [hn _ b h]; exact ⟨Nat.zero_le _, fun h => absurd h (Nat.not_lt_zero _)⟩

/-- The built-in patterns lie in their ranges, and pending contents of pattern 31 at the greatest values do too. -/
theorem test_meets_pattern_ranges :
    let p : Pattern := { normal.pattern 31 with lengthAdd := 16, stepCode := 20 }
    patternsLegal { normal with ie := { normal.ie with pendingPatterns := normal.ie.pendingPatterns.set 31 (some p) } } := by
  have hp (n : PatternNo) : (normal.pattern n).legal := by unfold Pattern.legal; revert n; decide
  refine ⟨by decide, by decide, fun n => ⟨hp n, fun q hq => ?_⟩⟩
  by_cases h : n = 31
  · subst h
    simp only [Fin.getElem_fin] at hq
    cases hq
    exact ⟨by decide, by decide, by decide⟩
  · have h31 : ¬ 31 = n.val := fun e => h (Fin.ext e.symm)
    simp [Vector.getElem_set_ne _ _ h31, normal, State.reset] at hq

/-- Normal work with empty bays and no fan charged meets the premise that the draws are booked. -/
theorem test_meets_books :
    let s := { normal with fm := { normal.fm with fans := normal.fm.fans.map fun f => { f with charge := 0 } } }
    drawsBooked s ∧ overLimitAgrees s := by
  refine ⟨fun _ => ⟨fun b => ?_, fun r => ?_⟩, fun _ r => ?_⟩ <;>
    simp [normal, State.charge, State.bay, State.rail, State.reset, resetBay, resetRail, chargeDue, bayCharges, fanCharges,
      State.fan, BayState.held, committed, State.railDesc, defaultDescription, defaultRail]

/-! ### Hypotheses that are met: the bays -/

theorem test_meets_settled (b : BayNo) : settled normal noFrame b := by
  unfold settled
  rw [test_normal_bays_are_absent b]
  simp [noFrame]

theorem test_meets_absence :
    let s := normalBay 95 fun v => { v with state := .seated .active, switch := true }
    s.phase = .running ∧ (s.bay 95).state = .seated .active ∧ Seated.active ≠ .queued ∧
      noFrame.presence.getLsbD 95 = false ∧ noFrame.fault = 0 := by decide

theorem test_meets_fault :
    let s := normalBay 95 fun v => { v with state := .seated .active, switch := true, retries := 3 }
    let f : ScanFrame := { presence := 1 <<< 95, fault := 1 <<< 95, feedback := 0 }
    s.phase = .running ∧ (s.bay 95).state = .seated .active ∧ blankEnded s 95 = true ∧
      f.presence.getLsbD 95 = true ∧ f.fault.getLsbD 95 = true ∧ f.fault.getLsbD 0 = false ∧
      (s.bayDesc 95).retryLimit < (s.bay 95).retries + 1 ∧ (normal.bay 95).retries + 1 ≤ (normal.bayDesc 95).retryLimit := by
  decide

theorem test_meets_insertion :
    let s := normalBay 0 fun v => { v with state := .arriving, debounce := some 90000, policy := .auto }
    s.phase = .running ∧ (s.bay 0).state = .arriving ∧ debounceOver s 0 = true ∧ (s.bay 0).policy = .auto ∧
      (normal.bay 0).policy = .hold := by decide

theorem test_meets_removal :
    let s := normalBay 0 fun v => { v with state := .leaving .queued, debounce := some 90000, link := some (.a, 3) }
    s.phase = .running ∧ (s.bay 0).state = .leaving .queued ∧ debounceOver s 0 = true := by decide

theorem test_meets_bay_timers :
    let s := normalBay 0 fun v => { v with state := .leaving .spinup, surgeEnd := some 100000 }
    let t := normalBay 0 fun v => { v with state := .seated .cooloff, coolOffEnd := some 100000 }
    let u := normalBay 0 fun v => { v with state := .seated .active, activeSince := some 40000 }
    ((s.bay 0).state.held = some .spinup ∧ timerDue s.uptime (s.bay 0).surgeEnd = true) ∧
      ((t.bay 0).state.held = some .cooloff ∧ timerDue t.uptime (t.bay 0).coolOffEnd = true) ∧
      ((u.bay 0).state.held = some .active ∧ timerDue u.uptime ((u.bay 0).activeSince.map fun v => v + 60000) = true) := by
  decide

/-! ### Hypotheses that are met: drawers, rails and supplies -/

theorem test_meets_line_samples :
    (∀ d : DrawerNo, (15 : BitVec 4).getLsbD d.val ≠ (normal.drawer d).line.level →
      timerDue normal.uptime ((normal.drawer d).line.debounce.map fun u => u + 50) = false) ∧
    ∀ n : SupplyNo, (0 : BitVec 2).getLsbD n.val ≠ normal.ps.lines[n].level →
      timerDue normal.uptime (normal.ps.lines[n].debounce.map fun u => u + 10) = false := by decide

theorem test_meets_drawer_line :
    let s := normalDrawer 3 fun v => { v with line := { level := true, debounce := some 99950 } }
    let t := normalDrawer 3 fun v => { v with state := .opened, line := { level := false, debounce := some 99950 } }
    timerDue s.uptime ((s.drawer 3).line.debounce.map fun u => u + 50) = true ∧ (s.drawer 3).state = .closed ∧
      (s.drawer 3).line.level = true ∧ (∀ e ∈ s.ps.queue, inDrawer s 3 e.bay = false) ∧ (t.drawer 3).state = .opened ∧
      (t.drawer 3).line.level = false ∧ 0 < t.dl.desc.drawerSettle := by decide

theorem test_meets_settle_end :
    let s := normalDrawer 0 fun v => { v with state := .settling, settleEnd := some 100000 }
    s.phase = .running ∧ (s.drawer 0).state = .settling ∧ timerDue s.uptime (s.drawer 0).settleEnd = true := by decide

theorem test_meets_join :
    ([{ bay := 1, priority := 3 }, { bay := 2, priority := 3 }, { bay := 3, priority := 0 }] : List QueueEntry).Pairwise
      fun x y => y.priority ≤ x.priority := by decide

theorem test_meets_supply_change :
    let s := { normal with ps := { normal.ps with lines := normal.ps.lines.set 1 { level := true, debounce := some 99990 } } }
    timerDue s.uptime (s.ps.lines[(1 : SupplyNo)].debounce.map fun u => u + 10) = true ∧ s.ps.supply = linesSupply s := by
  decide

theorem test_meets_stagger_end :
    let s := normalRail 0 fun v => { v with stagger := true, lastAdmission := some 90000 }
    let t : State :=
      { (s.setBay 0 { s.bay 0 with state := .seated .queued }) with
        ps := { s.ps with queue := [{ bay := 0, priority := 1 }] } }
    (s.rail 0).stagger = true ∧ timerDue s.uptime (staggerEndAt s 0) = true ∧ candidate s 0 = none ∧
      candidate t 0 = some { bay := 0, priority := 1 } ∧ (t.rail 0).paused = false ∧
      committed t 0 + (profileOf t 0).surge ≤ (t.rail 0).admitLimit ∧ 0 < (t.railDesc 0).stagger := by decide

theorem test_meets_crossings :
    let s := normalRail 3 fun v => { v with paused := true, sense := 2641 }
    ((normal.rail 3).sense ≤ (normal.rail 3).trip ∧ (normal.rail 3).trip < 2641 ∧ (normal.rail 3).paused = false) ∧
      ((s.rail 3).trip < (s.rail 3).sense ∧ 2640 ≤ (s.rail 3).trip ∧ (s.rail 3).paused = true ∧
        0 < (s.railDesc 3).holdOff) := by decide

theorem test_meets_hold_off_end :
    let s := normalRail 2 fun v => { v with paused := true, holdOffEnd := some 100000 }
    (s.rail 2).paused = true ∧ timerDue s.uptime (s.rail 2).holdOffEnd = true ∧ candidate s 2 = none := by decide

/-! ### Hypotheses that are met: temperature, cooling, fans and indicators -/

theorem test_meets_reads :
    let s := { normal with tu := { normal.tu with reading := some (15, 99980) } }
    let t := s.setSensor 15 { s.sensor 15 with state := .fresh, failures := 2 }
    normal.tu.reading = none ∧ uptimeReached normal.uptime normal.tu.nextRound = true ∧ s.tu.reading = some (15, 99980) ∧
      readPastTimeout s.uptime 99980 = false ∧ uptimeReached s.uptime (99980 + 20) = true ∧ (t.sensor 15).state = .fresh ∧
      2 ≤ (t.sensor 15).failures := by decide

theorem test_meets_periods :
    uptimeReached normal.uptime normal.cc.nextPeriod = true ∧ uptimeReached normal.uptime normal.fm.nextEvaluation = true ∧
      uptimeReached normal.uptime normal.ie.nextFrame = true ∧ uptimeReached State.reset.uptime State.reset.ie.nextFrame = true := by
  decide

theorem test_meets_expiries :
    let s := normal.setZone 0 { normal.zone 0 with override := some { duty := 0, endAt := 100000, port := .b } }
    let t := { normal with ie := { normal.ie with locates := normal.ie.locates.set 95 { on := true, endAt := some 100000 } } }
    ((s.zone 0).override = some { duty := 0, endAt := 100000, port := .b } ∧ uptimeReached s.uptime 100000 = true) ∧
      (t.locate 95).on = true ∧ timerDue t.uptime (t.locate 95).endAt = true := by decide

theorem test_meets_cube_law :
    let d : FanDesc := { fitted := true, zone := 1, rail := 0, pulses := 2, idle := 20, full := 3000, minRpm := 1000 }
    d.idle ≤ d.full ∧ d.full ≤ 3000 ∧ 255 ≤ 255 := by decide

theorem test_meets_curve :
    validCurve [{ temp := -80, duty := 0 }, { temp := 300, duty := 255 }] = true ∧
      (fun t : Int => (-80 : Int) ≤ t ∧ t < 300) 299 := by decide

theorem test_meets_tach :
    let s := normal.setFan 11 { normal.fan 11 with capture := .timing 98000 0 }
    (normal.fanDesc 11).fitted = true ∧ (normal.fan 11).capture = .waiting ∧ (s.fan 11).capture = .timing 98000 0 ∧
      elapsedMicros 98000 0 s.uptime 0 = 2000000 ∧ elapsedMicros 99999 501 s.uptime 0 < s.dl.desc.blankingTime ∧
      s.dl.desc.blankingTime ≤ elapsedMicros 99999 500 s.uptime 0 := by decide

/-! ### Hypotheses that are met: the ports and the orders -/

theorem test_meets_silence :
    let s := normal.setPort .b { normal.port .b with state := .live, silenceEnd := some 100000 }
    (s.port .b).state = .live ∧ timerDue s.uptime (s.port .b).silenceEnd = true := by decide

/-- A port with a recorded heartbeat in LOADING, and the premises of examinations: a charge above 0 and above the running draw, and a
queued bay in a drawer and with a profile. -/
theorem test_meets_heartbeat_and_examinations :
    let s := State.reset.setPort .b { State.reset.port .b with heartbeatSeen := true }
    let t := (normalBay 95 fun v => { v with state := .seated .spinup, admittedRunning := 80 }).setCharge 95 250
    let u := normal.setQueue [{ bay := 95, priority := 1 }]
    (s.phase = .loading ∧ (s.port .b).heartbeatSeen = true ∧ (s.port .b).state ≠ .live ∧ (s.port .a).heartbeatSeen = false) ∧
      (0 < t.charge 95 ∧ (t.bay 95).admittedRunning < t.charge 95) ∧
      ∃ e ∈ u.ps.queue, inDrawer u 3 e.bay = true ∧ (u.bay e.bay).profile = 0 := by
  exact ⟨by decide, by decide, _, List.mem_singleton.mpr rfl, by decide, by decide⟩

theorem test_meets_window_write :
    (Instr.windowWrite .b 0x06FC (.word 1)).wellFormed = true ∧ (0x06FC : BitVec 15).toNat < 0x7FF0 ∧
      (Instr.windowWrite .b 0x7FFF (.byte 1)).wellFormed = true := by decide

theorem test_meets_take_post :
    let s := live.setPort .b { live.port .b with post := 0x00800000 }
    posted s .b 23 = true ∧ (∀ m : SlotNo, m < 23 → posted s .b m = false) ∧ (∀ m : SlotNo, posted s s.oi.turn m = false) ∧
      contextOf s .b 23 = none ∧ slotState s .b 23 ≠ slotPosted := by decide

theorem test_meets_wait_limit :
    let s := { live with oi := { live.oi with contexts := [waiting] } }
    lingeringOf s .a 3 = some waiting ∧ waiting.linger = some { limit := 1, expiry := some 100000 } ∧
      uptimeReached s.uptime 100000 = true := by decide

theorem test_meets_ready : readyFor live .a 0 ∧ readyFor live .b 23 := by
  refine ⟨⟨rfl, rfl, rfl, rfl, rfl⟩, ⟨rfl, rfl, rfl, rfl, rfl⟩⟩

theorem test_meets_not_live :
    normal.phase = .running ∧ (normal.port .a).state ≠ .live ∧ normal.pa.post = 0 ∧ normal.pb.post = 0 ∧
      contextOf normal .a 0 = none := by decide

theorem test_meets_ready_for_a_cancel :
    let s := { live with oi := { live.oi with contexts := [waiting] } }
    readyFor s .a 4 ∧ lingeringOf s .a (Fin.ofNat 24 (3 : Byte).toNat) = some waiting := by
  refine ⟨⟨rfl, rfl, rfl, rfl, by decide⟩, by decide⟩

theorem test_meets_ranges :
    (∀ b : BayNo, b ∈ bayRange 95 1 → (live.bay b).state ≠ .disabled ∧ (live.bay b).holder ≠ some .b) ∧
      (95 : BayNo) ∈ bayRange 95 1 ∧ ((liveBay 95 fun v => { v with holder := some .b }).bay 95).holder = some .b ∧
      ((liveBay 95 fun v => { v with state := .disabled }).bay 95).state = .disabled := by
  refine ⟨fun b _ => ⟨?_, ?_⟩, by decide, by decide, by decide⟩ <;>
    simp [live, normal, State.bay, State.setPort, State.reset, resetBay]

theorem test_meets_bay_orders :
    let s := liveBay 95 fun v => { v with state := .seated .cooloff, link := some (.b, 0) }
    (95 : Byte).toNat < 96 ∧ (3 : Byte).toNat ≤ 3 ∧ (3600 : BitVec 16).toNat ≤ 3600 ∧
      (s.bay (bayOf 95)).holder ≠ some .b ∧ (s.bay (bayOf 95)).state = .seated .cooloff ∧
      (s.bay (bayOf 95)).link.isSome = true ∧ (s.bay (bayOf 95)).state.held = some .cooloff := by decide

theorem test_meets_order_arguments :
    ((1 : BitVec 16).toNat ≤ 600 ∧ (600 : BitVec 16).toNat ≤ 600 ∧ (601 : BitVec 16).toNat > 600) ∧
      (∃ p : Pattern, p.effective = p.effective ∧ p ≠ patternToCome live 31) ∧
      validCurve (([{ temp := 0, duty := 9 }] : List RawPoint).map fun p => { temp := p.temp.toInt, duty := p.duty.toNat }) =
        true := by
  refine ⟨by decide, ⟨{ live.pattern 31 with lengthAdd := (live.pattern 31).lengthAdd + 1 }, rfl, by decide⟩, by decide⟩

theorem test_meets_each_bay_state :
    ∀ v ∈ [BayState.disabled, .absent, .arriving, .seated .idle, .seated .queued, .seated .spinup, .seated .active,
        .seated .locked, .leaving .locked, .leaving .active],
      ((liveBay 95 fun b => { b with state := v }).bay (bayOf 95)).state = v := by
  intro v _
  simp [liveBay, State.bay, State.setBay, bayOf]

theorem test_meets_taken_and_posted :
    let s := { (live.setPort .a { live.port .a with post := 8 }) with oi := { live.oi with contexts := [waiting] } }
    let t := { (live.setPort .a { live.port .a with post := 8 }) with xm := [(slotBase .a 3, slotPosted)] }
    (posted s .a 3 = true ∧ (∀ m : SlotNo, m < 3 → posted s .a m = false) ∧ s.oi.turn = .a ∧ (contextOf s .a 3).isSome = true) ∧
      posted t .a 3 = true ∧ contextOf t .a 3 = none ∧ slotState t .a 3 = slotPosted ∧ (t.port .a).state = .live := by decide

theorem test_meets_fitted_sensor :
    let s : State :=
      { normal with
        dl := { normal.dl with
          desc := { normal.dl.desc with
            sensors := normal.dl.desc.sensors.set 15 { normal.dl.desc.sensors[15] with fitted := true } } } }
    (s.sensorDesc 15).fitted = true ∧ (∀ m : SensorNo, m < 15 → (s.sensorDesc m).fitted = false) ∧
      (nextFitted s 15).isSome = true ∧ ∀ n : SensorNo, (normal.sensorDesc n).fitted = false := by decide

theorem test_meets_fan_states :
    let s := normal.setFan 0 { normal.fan 0 with state := .failed, count := 2, rpm := 1000 }
    let t := normal.setFan 0 { normal.fan 0 with state := .running, count := 2, rpm := 999 }
    ((s.fan 0).state = .failed ∧ (s.fanDesc 0).minRpm ≤ (s.fan 0).rpm ∧ (s.fan 0).count = 2) ∧
      ((t.fan 0).state = .running ∧ (t.fan 0).rpm < (t.fanDesc 0).minRpm ∧ (t.fan 0).count = 2) ∧
      (normal.fan 0).state = .starting ∧ uptimeReached normal.uptime (normal.dl.epoch + 5000) = true := by decide

/-! ### Hypotheses that are met: samples, admission and rounds -/

/-- A frame with a drive in bay 95 alone. -/
def frame95 : ScanFrame := { presence := 1 <<< 95, fault := 0, feedback := 0 }

theorem frame95_elsewhere : ∀ c : BayNo, c ≠ 95 → frame95.presence.getLsbD c.val = false := by decide

/-- With bay 95 changed, a frame that shows presence at most in bay 95 shows every other bay what it stands for. -/
theorem test_meets_settled_others (g : Bay → Bay) :
    ∀ c : BayNo, c ≠ 95 → settled (normalBay 95 g) noFrame c ∧ settled (normalBay 95 g) frame95 c := by
  intro c hc
  have h : ((normalBay 95 g).bay c).state = .absent := by
    rw [test_normal_bay_others 95 c g hc, test_normal_bays_are_absent]
  have hf : frame95.presence.getLsbD c.val = false := frame95_elsewhere c hc
  constructor <;> unfold settled <;> rw [h]
  · simp [noFrame]
  · exact hf

/-- The states in which a sample of presence in bay 95 alone, or of none, changes bay 95. -/
theorem test_meets_sample_forms :
    let arriving := normalBay 95 fun v => { v with state := .arriving, debounce := some 99751 }
    let queued := normalBay 95 fun v => { v with state := .seated .queued }
    let back := normalBay 95 fun v => { v with state := .leaving .active, debounce := some 99751, link := some (.a, 3) }
    let place := normalBay 95 fun v => { v with state := .leaving .queued, debounce := some 99751 }
    ((normal.bay 95).state = .absent ∧ frame95.presence.getLsbD 95 = true ∧ frame95.fault = 0) ∧
      ((arriving.bay 95).state = .arriving ∧ noFrame.presence.getLsbD 95 = false) ∧
      (queued.bay 95).state = .seated .queued ∧ (back.bay 95).state = .leaving .active ∧
      (place.bay 95).state = .leaving .queued ∧ debounceOver back 95 = false ∧
      (lingeringOf { back with oi := { back.oi with contexts := [waiting] } } .a 3).isSome = true := by decide

/-- A sample at a bay's debounce end, to the millisecond. -/
theorem test_meets_debounce_ends_of_samples :
    let s := normalBay 95 fun v => { v with state := .arriving, debounce := some 99750 }
    let t := normalBay 95 fun v => { v with state := .leaving .spinup, debounce := some 99750 }
    ((s.bay 95).state = .arriving ∧ debounceOver s 95 = true ∧ frame95.presence.getLsbD 95 = true) ∧
      (t.bay 95).state = .leaving .spinup ∧ debounceOver t 95 = true ∧ noFrame.presence.getLsbD 95 = false := by decide

/-- A fault flag in a LEAVING bay as its inrush blank ends, and flags that have no effect: in a bay without power, and in a
powered one a millisecond before its blank ends. -/
theorem test_meets_fault_flags :
    let s := normalBay 95 fun v =>
      { v with state := .leaving .spinup, switch := true, debounce := some 99751, switchOn := .admitted 99980 }
    let f : ScanFrame := { presence := 0, fault := 1 <<< 95, feedback := 0 }
    ((s.bay 95).state = .leaving .spinup ∧ blankEnded s 95 = true ∧ debounceOver s 95 = false ∧
        f.presence.getLsbD 95 = false ∧ ∀ c : BayNo, f.fault.getLsbD c.val = decide (c = 95)) ∧
      (s.rail (railOf s 95)).overLimit = false ∧ committed s (railOf s 95) ≤ (s.rail (railOf s 95)).admitLimit ∧
      s.ps.queue = [] := by decide

theorem test_meets_disregarded_flags :
    faultDisregarded normal 95 ∧
      faultDisregarded
        (normalBay 95 fun v => { v with state := .seated .spinup, switch := true, switchOn := .admitted 99981 }) 95 :=
  ⟨.inl (by decide), .inr ⟨99981, by decide, by decide⟩⟩

/-- Bay 0 QUEUED at the head of the queue of a rail in a stagger wait that has ended. -/
def staggered (g : Rail → Rail) : State :=
  let s := normalRail 0 fun v => g { v with stagger := true, lastAdmission := some 98000 }
  { (s.setBay 0 { s.bay 0 with state := .seated .queued }) with ps := { s.ps with queue := [{ bay := 0, priority := 1 }] } }

/-- The end of a stagger wait with a candidate that fits to the last ca, one that does not by 1 ca, and one on a PAUSED rail. -/
theorem test_meets_examinations :
    let fits := staggered fun v => { v with admitLimit := committed normal 0 + 250 }
    let tight := staggered fun v => { v with admitLimit := committed normal 0 + 249 }
    let paused := staggered fun v => { v with paused := true }
    (timerDue fits.uptime (staggerEndAt fits 0) = true ∧ candidate fits 0 = some { bay := 0, priority := 1 } ∧
        committed fits 0 + (profileOf fits 0).surge = (fits.rail 0).admitLimit ∧ (fits.rail 0).paused = false) ∧
      (candidate tight 0 = some { bay := 0, priority := 1 } ∧
        (tight.rail 0).admitLimit < committed tight 0 + (profileOf tight 0).surge) ∧
      candidate paused 0 = some { bay := 0, priority := 1 } ∧ (paused.rail 0).paused = true := by decide

/-- A rail with a stagger time of 0 may be in a stagger wait that its description ends at once. -/
theorem test_meets_no_stagger :
    let s := staggered id
    let t : State :=
      { s with
        dl := { s.dl with
          desc := { s.dl.desc with rails := s.dl.desc.rails.set 0 { s.dl.desc.rails[0] with stagger := 0 } } } }
    (t.railDesc 0).stagger = 0 ∧ timerDue t.uptime (staggerEndAt t 0) = true ∧
      candidate t 0 = some { bay := 0, priority := 1 } := by decide

theorem test_meets_round_ends :
    let s := { normal with tu := { normal.tu with reading := some (15, 99980) } }
    (normal.tu.reading = none ∧ uptimeReached normal.uptime normal.tu.nextRound = true ∧
        ∀ n : SensorNo, (normal.sensorDesc n).fitted = false) ∧
      s.tu.reading = some (15, 99980) ∧ (∀ m : SensorNo, 15 < m → (s.sensorDesc m).fitted = false) ∧
      readPastTimeout s.uptime 99980 = false ∧ uptimeReached s.uptime (99980 + 20) = true := by decide

/-- Sensor 0 FRESH at the warn threshold of zone 0, the only term of that zone, with the read of sensor 15 at its timeout. -/
def warmest : State :=
  let s := normal.setSensor 0 { normal.sensor 0 with state := .fresh, value := some 100 }
  { s with tu := { s.tu with reading := some (15, 99980) } }

theorem test_meets_terms :
    givesTerm warmest 0 (.sensor 0) 100 ∧
      (∀ (g : Hottest) (w : Int), givesTerm warmest 0 g w → w < 100 ∨ (w = 100 ∧ (Hottest.sensor 0).rank ≤ g.rank)) ∧
      ∀ (h : Hottest) (v : Int), ¬ givesTerm warmest 1 h v := by
  have hs (n : SensorNo) : (warmest.sensor n).state = .fresh → (warmest.sensor n).value = some 100 ∧ n = 0 := by
    revert n; decide
  have hz (n : SensorNo) : (warmest.sensorDesc n).zone = 0 := by revert n; decide
  have hb (b : BayNo) : (warmest.bay b).driveTemp = none := by
    simp [warmest, normal, State.setSensor, State.bay, State.reset, resetBay]
  refine ⟨⟨by decide, by decide, by decide⟩, fun g w h => ?_, fun g w h => ?_⟩ <;> cases g <;>
    simp only [givesTerm, hb, hz] at h
  · obtain ⟨-, hf, hv⟩ := h
    obtain ⟨hk, rfl⟩ := hs _ hf
    rw [hk] at hv
    cases hv
    exact .inr ⟨rfl, Nat.le_refl _⟩
  · obtain ⟨-, d, hd, -⟩ := h; cases hd
  · exact absurd h.1 (by decide)
  · obtain ⟨-, d, hd, -⟩ := h; cases hd

/-- An edge a microsecond past 2 s, and a fan that is not fitted. -/
theorem test_meets_late_and_unfitted_edges :
    let s : State :=
      { normal with
        dl := { normal.dl with
          desc := { normal.dl.desc with fans := normal.dl.desc.fans.set 11 { normal.dl.desc.fans[11] with fitted := false } } } }
    elapsedMicros 97999 999 normal.uptime 0 = 2000001 ∧ (s.fanDesc 11).fitted = false := by decide

/-- Contents of pattern 31 that are in force, contents that are pending, and a step code at each end of its range. -/
theorem test_meets_pattern_answers :
    let p : Pattern := { live.pattern 31 with lengthAdd := 16, stepCode := 1 }
    let s := { live with ie := { live.ie with pendingPatterns := live.ie.pendingPatterns.set 31 (some p) } }
    live.pattern 31 = (live.ie.pendingPatterns[(31 : PatternNo)]).getD (live.pattern 31) ∧
      live.ie.pendingPatterns[(31 : PatternNo)] = none ∧ p = (s.ie.pendingPatterns[(31 : PatternNo)]).getD (s.pattern 31) ∧
      s.ie.pendingPatterns[(31 : PatternNo)] ≠ none ∧ (s.pattern 31).stepCode = 20 ∧ (s.pattern 7).stepCode = 1 := by decide

/-! ### Hypotheses that are met: the records -/

/-- Every record of the tables of a state, in the order of their places, with where it stands after its update count; of a fan's
record the bytes that always follow the tables. -/
def records (s : State) : List (Nat × List Byte) :=
  [(descriptionBase + 2, descriptionBody s), (profileBase + 2, profileBody s), (liveBase + 2, liveBody s)] ++
  ((List.finRange 4).map fun z => (zoneBase z + 2, zoneBody s z)) ++
  ((List.finRange 12).flatMap fun f =>
    [(fanBase f + 2, [byteOf (fanFlags (s.fan f)), byteOf (s.fan f).duty]),
      (fanBase f + 10, le16 (s.fan f).charge ++ le32 (uptimeCode (s.fan f).lastEvaluation))]) ++
  ((List.finRange 16).map fun n => (sensorBase n + 2, sensorBody s n)) ++
  ((List.finRange 4).map fun d => (drawerBase d + 2, drawerBody s d)) ++
  [(queueBase + 2, queueBody s),
    (eventHeaderBase + 2, le16 (eventIndex (nextSequence s.ew.latest)) ++ le32 s.ew.latest.toNat)] ++
  ((List.finRange 4).map fun r => (railBase r + 2, railBody s r)) ++
  (List.finRange 96).map fun b => (bayBase b + 2, bayBody s b)

/-- Normal work with every record of the tables in the exchange memory. -/
def published : State := { normal with xm := (records normal).foldl (fun m p => Memory.write m p.1 p.2) [] }

/-- Run p ends before run q begins. -/
def before (p q : Nat × List Byte) : Prop := p.1 + p.2.length ≤ q.1

/-- Runs written one after another, none over another, all read back. -/
theorem readRun_writes (rs : List (Nat × List Byte)) (m : Memory) (h : rs.Pairwise before) :
    ∀ p ∈ rs, Memory.readRun (rs.foldl (fun m p => Memory.write m p.1 p.2) m) p.1 p.2.length = p.2 := by
  have keep (qs : List (Nat × List Byte)) (p : Nat × List Byte) (hp : ∀ q ∈ qs, before p q) :
      ∀ m : Memory, Memory.readRun (qs.foldl (fun m p => Memory.write m p.1 p.2) m) p.1 p.2.length =
        Memory.readRun m p.1 p.2.length := by
    induction qs with
    | nil => exact fun _ => rfl
    | cons q qs ih =>
      intro m
      rw [List.foldl_cons, ih fun x hx => hp x (by simp [hx])]
      exact Memory.readRun_write_disjoint (.inl (hp q (by simp)))
  induction rs generalizing m with
  | nil => simp
  | cons q qs ih =>
    obtain ⟨hq, hqs⟩ := List.pairwise_cons.1 h
    intro p hp
    rw [List.foldl_cons]
    rcases List.mem_cons.1 hp with rfl | hp
    · rw [keep qs p hq]
      exact Memory.readRun_write_same ..
    · exact ih _ hqs p hp

theorem before_trans {p q r : Nat × List Byte} (h : before p q) (k : before q r) : before p r := by
  unfold before at *; omega

theorem records_in_order : (records normal).Pairwise before := by
  have : Trans before before before := ⟨before_trans⟩
  rw [← List.isChain_iff_pairwise]
  unfold before
  decide +kernel

/-- A memory in which every record of a state in normal work stands shows what the state publishes. -/
theorem recordsAgree_of_records (s : State) (m : Memory) (h : ∀ p ∈ records s, Memory.readRun m p.1 p.2.length = p.2)
    (hs : s.phase = .running) (hd : ∀ d : DrawerNo, (s.drawer d).state = .opened ↔ (s.drawer d).line.level = false) :
    recordsAgree { s with xm := m } := by
  have hr (base : Nat) (body : List Byte) (hm : (base + 2, body) ∈ records s) : recordShows { s with xm := m } base body :=
    h _ hm
  have hf (f : FanNo) : ∀ p ∈ [(fanBase f + 2, [byteOf (fanFlags (s.fan f)), byteOf (s.fan f).duty]),
      (fanBase f + 10, le16 (s.fan f).charge ++ le32 (uptimeCode (s.fan f).lastEvaluation))], p ∈ records s := by
    intro p hp
    simp only [records, List.mem_append]
    exact .inl (.inl (.inl (.inl (.inl (.inr (List.mem_flatMap.2 ⟨f, List.mem_finRange f, hp⟩))))))
  refine ⟨hr _ _ (by simp [records]), fun _ => hr liveBase (liveBody s) (by simp [records]), fun h => ?_, fun _ =>
    ⟨hr _ (descriptionBody s) (by simp [records]), hr _ (profileBody s) (by simp [records]),
      hr _ (queueBody s) (by simp [records]), fun b => hr _ (bayBody s b) (by simp [records, -Prod.mk.injEq]),
      fun d => ⟨hr _ (drawerBody s d) (by simp [records, -Prod.mk.injEq]), hd d⟩,
      fun r => hr _ (railBody s r) (by simp [records, -Prod.mk.injEq]),
      fun z => hr _ (zoneBody s z) (by simp [records, -Prod.mk.injEq]),
      fun n => hr _ (sensorBody s n) (by simp [records, -Prod.mk.injEq]),
      fun f => ⟨h _ (hf f _ (.head _)), h _ (hf f _ (.tail _ (.head _)))⟩⟩⟩
  exact absurd (hs.symm.trans h) (by decide)

/-- In normal work every record shows what it publishes, and the part steps on. -/
theorem test_meets_records : recordsAgree published ∧ step published = .next published :=
  ⟨recordsAgree_of_records normal _ (readRun_writes (records normal) [] records_in_order) rfl (by decide), rfl⟩

/-! ### Single steps on small states -/

/-- R1: the uptime follows 0xFFFFFFFF with 0. -/
theorem test_tick_wraps : (after .uptimeTick { normal with uptime := 0xFFFFFFFF }).uptime = 0 := by decide

/-- R9: the end of an arrival under HOLD leaves the bay IDLE, and INSERTED is event 1. -/
theorem test_inserted_under_hold :
    let t := after (.inserted 0) (normalBay 0 fun v => { v with state := .arriving, debounce := some 90000 })
    (t.bay 0).state = .seated .idle ∧ t.ew.latest = 1 := by decide

/-- R42, R43: at the end of a stagger wait a candidate whose surge draw fits to the last ca is admitted. -/
theorem test_stagger_end_admits :
    let t := after (.staggerEnd 0) (staggered fun v => { v with admitLimit := committed normal 0 + 250 })
    (t.bay 0).state = .seated .spinup ∧ t.charge 0 = 250 ∧ t.ps.queue = [] := by decide +kernel

/-- R39: one that does not fit by 1 ca blocks the rail. -/
theorem test_stagger_end_blocks :
    ((after (.staggerEnd 0) (staggered fun v => { v with admitLimit := committed normal 0 + 249 })).rail 0).blocked = some 0 := by
  decide +kernel

/-- R40: a fan charge that falls makes an examination though the fan part of its rail rises: the candidate then blocks the rail. -/
theorem test_fan_charge_fall_examines :
    let q := staggered fun v => { v with stagger := false, fanPart := 701, admitLimit := 1000 }
    let s := (q.setFan 0 { q.fan 0 with charge := 301 }).setFan 1 { q.fan 1 with charge := 100 }
    fanPartFor s 0 = 900 ∧ fanChargeFell s 0 = true ∧ fanChargeFell s 1 = false ∧
      ((handFanCharges s).rail 0).blocked = some 0 := by decide +kernel

/-- R76 to R78: the round's last read leaves zone 0 SEEING at its one term, which sets warn at its threshold and leaves critical,
and zone 1, without a term, BLIND. -/
theorem test_round_end :
    let t := after .sensorReadTimeout warmest
    t.sense 0 = { temp := some 100, hottest := .sensor 0, sight := .seeing, warn := true, critical := false } ∧
      (t.sense 1).sight = .blind := by decide +kernel

/-- R139, R140: a read of eight bytes from 0x7FF0 on returns POST and NOTICE; a half word of a register reads 0. -/
theorem test_window_reads_registers :
    let s := normal.setPort .a { normal.port .a with post := 0x00800001, notice := 0x11000002 }
    readWindow s .a 0x7FEC 12 = [0, 0, 0, 0, 1, 0, 0x80, 0, 2, 0, 0, 0x11] ∧ readWindow s .a 0x7FF0 2 = [0, 0] := by decide

/-- R121, R123: 36 ms before the epoch time returns to 0, at a refresh, no refresh of a 50 ms step falls on a boundary until the
refreshes are back at multiples of 10 ms, at the fifth return: 5 × 2³² − (2³² − 36) ms on. -/
theorem test_effect_across_the_wrap : boundaryDelay 6 (2 ^ 32 - 36) 50 = 4 * 2 ^ 32 + 36 := by decide

/-- R123: with a boundary at or before the wrap the delay runs to it. -/
theorem test_effect_before_the_wrap : boundaryDelay 6 (2 ^ 32 - 56) 50 = 10 ∧ boundaryDelay 6 100 50 = 0 := by decide

/-- R141: a write to NOTICE clears the bits written as 1, and no others. -/
theorem test_notice_write_clears :
    (after (.noticeWrite .a 0x01000001) (normal.setPort .a { normal.port .a with notice := 0x03000003 })).pa.notice =
      0x02000002 := by decide

/-- R108: a period of 5001 µs at two pulses per revolution is 5998 rpm. -/
theorem test_tach_edge_rpm :
    ((after (.tachEdge 0 1) (normal.setFan 0 { normal.fan 0 with capture := .timing 99995 0 })).fan 0).rpm = 5998 := by decide

/-- R49: a rising crossing pauses the rail; R50: a falling one leaves it paused for its hold-off. -/
theorem test_crossings :
    let t := after (.risingCrossing 0 2641) normal
    (t.rail 0).paused = true ∧ ((after (.fallingCrossing 0 2640) t).rail 0).holdOffEnd = some 102000 := by decide

/-- R96: an expiry leaves the zone's duty. -/
theorem test_override_expiry_keeps_the_duty :
    let t := after (.overrideExpiry 0)
      (normal.setZone 0 { normal.zone 0 with override := some { duty := 0, endAt := 100000, port := .b } })
    (t.zone 0).override = none ∧ (t.zone 0).duty = 255 := by decide

/-- R160, R162: a heartbeat makes its port LIVE with the default timeout of 10 s, and tells the other port. -/
theorem test_heartbeat_makes_live :
    let t := after (.heartbeat .a 0) normal
    t.pa.state = .live ∧ t.pa.silenceEnd = some 110000 ∧ t.pb.notice = 0x11000000 := by decide

/-- The reset state answers every command, and a queue runs front first (the model's own queue). -/
theorem test_step_takes_the_front :
    step { State.reset with pending := [.uptimeTick, .powerOnReset] } =
      exec .uptimeTick { State.reset with pending := [.powerOnReset] } := by rfl

end Sys2Proof.Machine
end

section
/-! SUPPORT. A rewrite of a record: the update count it leaves, the body it leaves, and that it changes nothing outside the record
(R167). -/

namespace Sys2Proof.Machine

/-! ### Bytes and runs -/

@[simp] theorem le16_length (n : Nat) : (le16 n).length = 2 := rfl

@[simp] theorem le32_length (n : Nat) : (le32 n).length = 4 := rfl

/-- Two bytes hold a number below 65536 in full. -/
theorem leNat_le16 {n : Nat} (h : n < 65536) : leNat (le16 n) = n := by
  simp only [leNat, le16, byteOf, BitVec.toNat_ofNat]
  omega

/-- A run is its first bytes and then the rest. -/
theorem Memory.readRun_add (m : Memory) (a j k : Nat) :
    Memory.readRun m a (j + k) = Memory.readRun m a j ++ Memory.readRun m (a + j) k := by
  simp [Memory.readRun, List.range_add, Nat.add_assoc]

/-- Of two runs of bytes written one behind the other, each reads back at its own place. -/
theorem Memory.readRun_write_append (m : Memory) (a : Nat) (bs cs : List Byte) :
    Memory.readRun (Memory.write m a (bs ++ cs)) a bs.length = bs ∧
      Memory.readRun (Memory.write m a (bs ++ cs)) (a + bs.length) cs.length = cs := by
  have whole := Memory.readRun_write_same m a (bs ++ cs)
  rw [List.length_append, Memory.readRun_add] at whole
  exact List.append_inj whole (Memory.readRun_length _ _ _)

/-! ### One rewrite of a record -/

section
variable (base : Nat) (body : List Byte) (s : State)

theorem putRecord_xm :
    (putRecord base body s).xm = Memory.write s.xm base (le16 ((updateCount s base + 2) % 65536) ++ body) := rfl

/-- A rewrite changes the exchange memory alone. -/
theorem putRecord_frame : putRecord base body s = { s with xm := (putRecord base body s).xm } := rfl

/-- A rewrite raises the record's update count by 2, modulo 65536 (R167). -/
theorem updateCount_putRecord :
    updateCount (putRecord base body s) base = (updateCount s base + 2) % 65536 := by
  have count := (Memory.readRun_write_append s.xm base (le16 ((updateCount s base + 2) % 65536)) body).1
  rw [le16_length, ← putRecord_xm] at count
  rw [updateCount, count, leNat_le16 (Nat.mod_lt _ (by decide))]

/-- A rewrite leaves its bytes after the update count. -/
theorem recordShows_putRecord : recordShows (putRecord base body s) base body :=
  (Memory.readRun_write_append s.xm base (le16 ((updateCount s base + 2) % 65536)) body).2

/-- A rewrite leaves every byte outside its record. -/
theorem untouched_putRecord : untouched s (putRecord base body s) [(base, body.length + 2)] := by
  intro a ha
  have outside : ¬(base ≤ a ∧ a < base + (body.length + 2)) := by simpa [Region.has] using ha
  rw [putRecord_xm]
  apply Memory.read_write_outside
  rw [List.length_append, le16_length]
  omega

end

/-! ### The tick -/

/-- Outside RESET_N low a tick is the uptime raised by 1 and one rewrite of the live record (R1, R168). -/
theorem exec_uptimeTick {s : State} (h : s.phase ≠ .inReset) :
    exec .uptimeTick s = .next (rewriteLive { s with uptime := s.uptime + 1 }) :=
  congrArg Host.Outcome.next (if_neg h)

/-- Settles O15: the raised uptime leaves the memory as it was, so the tick is one rewrite of the live record from there. -/
theorem tickRaisesTheUptimeAndTheLiveRecord : Obligations.TickRaisesTheUptimeAndTheLiveRecord := by
  intro s running
  refine ⟨rewriteLive { s with uptime := s.uptime + 1 }, exec_uptimeTick running, putRecord_frame _ _ _, ?count, ?body, ?rest⟩
  case count => exact updateCount_putRecord liveBase _ _
  case body => exact recordShows_putRecord liveBase (liveBody _) _
  case rest => exact untouched_putRecord liveBase (liveBody _) _

end Sys2Proof.Machine
end

section
/-! SUPPORT. What the power sequencer's books, its queue and its admissions go by, and what leaves all of that as it was: the
predicates of this file are the parts of the power invariants, each said of one bay or one rail. -/

namespace Sys2Proof.Machine

/-! ### The power side of a bay -/

/-- The fields of a bay that the queue, the books and an admission read or write. -/
structure BayPower where
  held : Option Seated
  priority : Fin 4
  switch : Bool
  profile : ProfileNo
  surge : Nat
  surgeTime : Nat
  running : Nat
  surgeEnd : Option Uptime
  switchOn : SwitchOn

/-- The power side of a bay entry. -/
def Bay.power (v : Bay) : BayPower :=
  { held := v.state.held, priority := v.priority, switch := v.switch, profile := v.profile, surge := v.admittedSurge,
    surgeTime := v.admittedSurgeTime, running := v.admittedRunning, surgeEnd := v.surgeEnd, switchOn := v.switchOn }

/-- Two bays with the same power side call for the same charge. -/
theorem chargeDue_of_power {v w : Bay} (h : v.power = w.power) : chargeDue v = chargeDue w := by
  simp only [Bay.power, BayPower.mk.injEq] at h
  simp only [chargeDue, h]

/-! ### What leaves the power side -/

/-- A change that leaves the rails, the charges, the queue, the profiles and the power side of every bay. -/
structure Aside (s t : State) : Prop where
  uptime : t.uptime = s.uptime
  dl : t.dl = s.dl
  rails : t.ps.rails = s.ps.rails
  charges : t.ps.charges = s.ps.charges
  queue : t.ps.queue = s.ps.queue
  profiles : t.ps.profiles = s.ps.profiles
  power : ∀ b, (t.bay b).power = (s.bay b).power

/-- A change that leaves the fan charges too. -/
structure Idle (s t : State) : Prop extends Aside s t where
  fans : ∀ f, (t.fan f).charge = (s.fan f).charge

/-- A change that leaves the drawer states and the critical flags too, which eligibility reads (R38). -/
structure Same (s t : State) : Prop extends Idle s t where
  drawer : ∀ d, (t.drawer d).state = (s.drawer d).state
  critical : ∀ z, (t.sense z).critical = (s.sense z).critical

section
variable {s t u : State}

theorem Aside.trans (h : Aside s t) (k : Aside t u) : Aside s u :=
  ⟨k.uptime.trans h.uptime, k.dl.trans h.dl, k.rails.trans h.rails, k.charges.trans h.charges, k.queue.trans h.queue,
    k.profiles.trans h.profiles, fun b => (k.power b).trans (h.power b)⟩

theorem Idle.trans (h : Idle s t) (k : Idle t u) : Idle s u :=
  ⟨h.toAside.trans k.toAside, fun f => (k.fans f).trans (h.fans f)⟩

theorem Same.refl (s : State) : Same s s :=
  ⟨⟨⟨rfl, rfl, rfl, rfl, rfl, rfl, fun _ => rfl⟩, fun _ => rfl⟩, fun _ => rfl, fun _ => rfl⟩

theorem Same.trans (h : Same s t) (k : Same t u) : Same s u :=
  ⟨h.toIdle.trans k.toIdle, fun d => (k.drawer d).trans (h.drawer d), fun z => (k.critical z).trans (h.critical z)⟩

/-- A change of parts of the state that no rule of power reads. -/
theorem Same.keep (h : Same s t) (h1 : u.uptime = t.uptime) (h2 : u.dl = t.dl) (h3 : u.bc = t.bc) (h4 : u.ps = t.ps)
    (h5 : u.fm = t.fm) (h6 : u.tu.zones = t.tu.zones) : Same s u := by
  refine h.trans ⟨⟨⟨h1, h2, ?_, ?_, ?_, ?_, fun b => ?_⟩, fun f => ?_⟩, fun d => ?_, fun z => ?_⟩ <;>
    simp [State.bay, State.fan, State.drawer, State.sense, h3, h4, h5, h6]

theorem Same.publish (h : Same s t) (k : Publishes t u) : Same s u :=
  h.keep k.uptime k.dl k.bc k.ps k.fm (by rw [k.tu])

/-- A change of a bay's other fields. -/
theorem Same.setBay (h : Same s t) {b : BayNo} {v : Bay} (hv : v.power = (t.bay b).power) : Same s (t.setBay b v) := by
  refine h.trans ⟨⟨⟨rfl, rfl, rfl, rfl, rfl, rfl, fun k => ?_⟩, fun _ => rfl⟩, fun _ => rfl, fun _ => rfl⟩
  by_cases hk : b = k
  · subst hk; simpa using hv
  · rw [State.bay_setBay_ne _ hk]

theorem Same.forEach {α : Type} (h : Same s t) (l : List α) {f : α → State → State}
    (hf : ∀ x u, Same s u → Same s (f x u)) : Same s (Machine.forEach l f t) :=
  forEach_keeps l (fun x _ u => hf x u) t h

theorem railDesc_eq (h : t.dl = s.dl) (r : RailNo) : t.railDesc r = s.railDesc r := by simp [State.railDesc, h]
theorem bayDesc_eq (h : t.dl = s.dl) (b : BayNo) : t.bayDesc b = s.bayDesc b := by simp [State.bayDesc, h]
theorem railOf_eq (h : t.dl = s.dl) (b : BayNo) : railOf t b = railOf s b := by simp [railOf, bayDesc_eq h]

theorem Aside.rail (h : Aside s t) (r : RailNo) : t.rail r = s.rail r := by simp [State.rail, h.rails]
theorem Aside.charge (h : Aside s t) (b : BayNo) : t.charge b = s.charge b := by simp [State.charge, h.charges]
theorem Aside.held (h : Aside s t) (b : BayNo) : (t.bay b).state.held = (s.bay b).state.held :=
  congrArg BayPower.held (h.power b)
theorem Aside.committed (h : Aside s t) (r : RailNo) : committed t r = committed s r := by
  simp [Machine.committed, railDesc_eq h.dl, h.rail]
theorem Aside.profileOf (h : Aside s t) (b : BayNo) : profileOf t b = profileOf s b := by
  have e : (t.bay b).profile = (s.bay b).profile := congrArg BayPower.profile (h.power b)
  simp [Machine.profileOf, State.profile, h.profiles, e]
end

/-! ### The queue, bay by bay -/

/-- The entries of a bay in a queue. -/
def entriesOf (b : BayNo) (q : List QueueEntry) : List QueueEntry := q.filter fun e => decide (e.bay = b)

/-- The queue has one entry for a bay that is QUEUED, or LEAVING with saved QUEUED, at the priority its field holds, and none for
any other bay (R34, R36). -/
def Placed (s : State) (b : BayNo) : Prop :=
  entriesOf b s.ps.queue =
    if (s.bay b).state.held = some .queued then [{ bay := b, priority := (s.bay b).priority }] else []

/-- Priorities never rise along the queue (R35, R36). -/
def Sorted (s : State) : Prop := s.ps.queue.Pairwise fun x y => y.priority ≤ x.priority

theorem mem_entriesOf {b : BayNo} {q : List QueueEntry} {e : QueueEntry} : e ∈ entriesOf b q ↔ e ∈ q ∧ e.bay = b := by
  simp [entriesOf]

theorem entriesOf_cons (b : BayNo) (e : QueueEntry) (q : List QueueEntry) :
    entriesOf b (e :: q) = if e.bay = b then e :: entriesOf b q else entriesOf b q := by
  simp [entriesOf, List.filter_cons]

/-- With no bay twice in the queue, the entries of the bay of an entry are that entry. -/
theorem entriesOf_of_nodup {q : List QueueEntry} (h : (q.map QueueEntry.bay).Nodup) {e : QueueEntry} (he : e ∈ q) :
    entriesOf e.bay q = [e] := by
  induction q with
  | nil => simp at he
  | cons x xs ih =>
    rw [List.map_cons, List.nodup_cons] at h
    rw [entriesOf_cons]
    rcases List.mem_cons.mp he with rfl | he
    · have : entriesOf e.bay xs = [] := by
        rw [List.eq_nil_iff_forall_not_mem]
        intro y hy
        obtain ⟨hy, hb⟩ := mem_entriesOf.mp hy
        exact h.1 (List.mem_map.mpr ⟨y, hy, hb⟩)
      simp [this]
    · have hne : x.bay ≠ e.bay := fun hx => h.1 (List.mem_map.mpr ⟨e, he, hx.symm⟩)
      rw [if_neg hne, ih h.2 he]

/-- A queue that holds at most one entry for each bay holds no bay twice. -/
theorem nodup_of_entriesOf {q : List QueueEntry} (h : ∀ b, (entriesOf b q).length ≤ 1) : (q.map QueueEntry.bay).Nodup := by
  induction q with
  | nil => exact List.nodup_nil
  | cons x xs ih =>
    rw [List.map_cons, List.nodup_cons]
    constructor
    · rintro hx
      obtain ⟨e, he, hb⟩ := List.mem_map.mp hx
      have h1 := h x.bay
      rw [entriesOf_cons, if_pos rfl] at h1
      have h2 := List.length_pos_of_mem (mem_entriesOf.mpr ⟨he, hb⟩)
      rw [List.length_cons] at h1
      omega
    · refine ih fun b => le_trans ?_ (h b)
      rw [entriesOf_cons]
      split <;> simp

/-- The queue agrees with the bay states exactly when it is in order and every bay's entries are as they should be. -/
theorem queueAgrees_iff (s : State) : queueAgrees s ↔ Sorted s ∧ ∀ b, Placed s b := by
  constructor
  · rintro ⟨nodup, sorted, members, priorities⟩
    refine ⟨sorted, fun b => ?_⟩
    unfold Placed
    split
    case isTrue hq =>
      obtain ⟨e, he, rfl⟩ := (members b).mpr hq
      rw [entriesOf_of_nodup nodup he, ← priorities e he]
    case isFalse hq =>
      rw [List.eq_nil_iff_forall_not_mem]
      intro e he
      exact hq ((members b).mp ⟨e, mem_entriesOf.mp he⟩)
  · rintro ⟨sorted, placed⟩
    have mem_queued : ∀ e ∈ s.ps.queue, (s.bay e.bay).state.held = some .queued ∧ e.priority = (s.bay e.bay).priority := by
      intro e he
      have h := placed e.bay
      have hm := mem_entriesOf.mpr ⟨he, rfl⟩
      unfold Placed at h
      split at h
      case isTrue hq =>
        rw [h, List.mem_singleton] at hm
        exact ⟨hq, congrArg QueueEntry.priority hm⟩
      case isFalse => simp [h] at hm
    refine ⟨nodup_of_entriesOf fun b => ?_, sorted, fun b => ⟨?_, fun hq => ?_⟩, fun e he => (mem_queued e he).2⟩
    · rw [placed b]
      split <;> simp
    · rintro ⟨e, he, rfl⟩
      exact (mem_queued e he).1
    · have h := placed b
      rw [Placed, if_pos hq] at h
      exact ⟨_, mem_entriesOf.mp (h ▸ List.mem_singleton_self _)⟩

theorem entriesOf_withoutBay (b k : BayNo) (q : List QueueEntry) :
    entriesOf k (withoutBay b q) = if b = k then [] else entriesOf k q := by
  simp only [entriesOf, withoutBay, List.filter_filter]
  split
  · subst b
    rw [List.filter_eq_nil_iff]
    simp
  · rename_i h
    apply List.filter_congr
    intro e _
    by_cases he : e.bay = k <;> simp [he, Ne.symm h]

theorem entriesOf_insertEntry_ne {e : QueueEntry} {k : BayNo} (h : e.bay ≠ k) (q : List QueueEntry) :
    entriesOf k (insertEntry e q) = entriesOf k q := by
  induction q with
  | nil => simp [insertEntry, entriesOf, h]
  | cons x xs ih =>
    rw [insertEntry]
    split
    · rw [entriesOf_cons, entriesOf_cons, ih]
    · rw [entriesOf_cons, if_neg h]

theorem entriesOf_insertEntry_same {e : QueueEntry} {q : List QueueEntry} (h : entriesOf e.bay q = []) :
    entriesOf e.bay (insertEntry e q) = [e] := by
  induction q with
  | nil => simp [insertEntry, entriesOf]
  | cons x xs ih =>
    rw [entriesOf_cons] at h
    split at h
    · simp at h
    · rename_i hx
      rw [insertEntry]
      split
      · rw [entriesOf_cons, if_neg hx, ih h]
      · rw [entriesOf_cons, if_pos rfl, entriesOf_cons, if_neg hx, h]

/-- The place an insertion takes in a queue whose priorities do not rise: behind every entry of its own priority or a higher one
and ahead of every lower one (R35). -/
theorem insertEntry_of_sorted (e : QueueEntry) (q : List QueueEntry) (h : q.Pairwise fun x y => y.priority ≤ x.priority) :
    insertEntry e q =
      (q.filter fun x => decide (e.priority ≤ x.priority)) ++ e :: q.filter fun x => decide (x.priority < e.priority) := by
  induction q with
  | nil => rfl
  | cons x xs ih =>
    obtain ⟨hx, hxs⟩ := List.pairwise_cons.mp h
    rw [insertEntry]
    split
    case isTrue hle => simp [hle, ih hxs, not_lt.mpr hle]
    case isFalse hlt =>
      have hlt : x.priority < e.priority := not_le.mp hlt
      have above : xs.filter (fun y => decide (e.priority ≤ y.priority)) = [] := by
        rw [List.filter_eq_nil_iff]
        intro y hy
        simpa using lt_of_le_of_lt (hx y hy) hlt
      have below : xs.filter (fun y => decide (y.priority < e.priority)) = xs := by
        rw [List.filter_eq_self]
        intro y hy
        simpa using lt_of_le_of_lt (hx y hy) hlt
      simp [hlt, not_le.mpr hlt, above, below]

/-- An insertion leaves a queue in order (R35). -/
theorem insertEntry_sorted (e : QueueEntry) {q : List QueueEntry} (h : q.Pairwise fun x y => y.priority ≤ x.priority) :
    (insertEntry e q).Pairwise fun x y => y.priority ≤ x.priority := by
  rw [insertEntry_of_sorted e q h, List.pairwise_append, List.pairwise_cons]
  refine ⟨h.filter _, ⟨?_, h.filter _⟩, ?_⟩
  · intro y hy
    exact le_of_lt (by simpa using (List.mem_filter.mp hy).2)
  · intro x hx y hy
    have hx : e.priority ≤ x.priority := by simpa using (List.mem_filter.mp hx).2
    rcases List.mem_cons.mp hy with rfl | hy
    · exact hx
    · have hy : y.priority < e.priority := by simpa using (List.mem_filter.mp hy).2
      exact (le_of_lt hy).trans hx

theorem withoutBay_sorted (b : BayNo) {q : List QueueEntry} (h : q.Pairwise fun x y => y.priority ≤ x.priority) :
    (withoutBay b q).Pairwise fun x y => y.priority ≤ x.priority := h.filter _

/-! ### The books -/

/-- Each rail's bay part is the sum of its bays' charges, and its fan part a given sum (R31, R32). -/
def Parts (fans : RailNo → Nat) (s : State) : Prop :=
  ∀ r, (s.rail r).bayPart = bayCharges s r ∧ (s.rail r).fanPart = fans r

/-- OVER_LIMIT of a rail is set exactly while the committed draw exceeds the admission limit (R52). -/
def OverAgrees (s : State) (r : RailNo) : Prop := (s.rail r).overLimit = decide ((s.rail r).admitLimit < committed s r)

/-- The parts of every rail are the sums they stand for, and OVER_LIMIT agrees on every rail. -/
def Booked (fans : RailNo → Nat) (s : State) : Prop := Parts fans s ∧ ∀ r, OverAgrees s r

/-- A bay's charge is what its state calls for (R31). -/
def Due (s : State) (b : BayNo) : Prop := s.charge b = chargeDue (s.bay b)

/-- The books and OVER_LIMIT agree exactly when, in normal work, the fan parts are the sums of the charges handed and every bay's
charge is the one due. -/
theorem books_iff (s : State) :
    drawsBooked s ∧ overLimitAgrees s ↔ (s.phase = .running → Booked (fanCharges s) s ∧ ∀ b, Due s b) := by
  constructor
  · rintro ⟨draws, limits⟩ hp
    obtain ⟨due, parts⟩ := draws hp
    exact ⟨⟨parts, limits hp⟩, due⟩
  · intro h
    exact ⟨fun hp => ⟨(h hp).2, (h hp).1.1⟩, fun hp => (h hp).1.2⟩

/-! ### A bay in its surge -/

/-- A bay in SPINUP, or LEAVING with saved SPINUP, stands as an admission of this moment left it: its switch, charge and surge timer
set, and its rail's last admission time and STAGGER (R42, R43). -/
def Spun (s : State) (b : BayNo) : Prop :=
  (s.bay b).state.held = some .spinup →
    (s.bay b).switch = true ∧ s.charge b = (s.bay b).admittedSurge ∧
    (s.bay b).surgeEnd = some (uptimeAfter s.uptime (100 * (s.bay b).admittedSurgeTime)) ∧
    (s.bay b).switchOn = .admitted s.uptime ∧ (s.rail (railOf s b)).lastAdmission = some s.uptime ∧
    (0 < (s.railDesc (railOf s b)).stagger → (s.rail (railOf s b)).stagger = true)

/-- A bay in its surge has its drawer home and its zone not critical (R38). -/
def Home (s : State) (b : BayNo) : Prop :=
  (s.bay b).state.held = some .spinup → drawerHome s b = true ∧ (s.sense (s.bayDesc b).zone).critical = false

/-- A bay in its surge was admitted at the draws and the surge time of the profile it names (R42). -/
def Drawn (s : State) (b : BayNo) : Prop :=
  (s.bay b).state.held = some .spinup →
    (s.bay b).admittedSurge = (profileOf s b).surge ∧ (s.bay b).admittedSurgeTime = (profileOf s b).surgeTime ∧
    (s.bay b).admittedRunning = (profileOf s b).running

/-- A bay in its surge stands on a rail that is not PAUSED and whose committed draw is within its admission limit (R42). -/
def Roomy (s : State) (b : BayNo) : Prop :=
  (s.bay b).state.held = some .spinup →
    (s.rail (railOf s b)).paused = false ∧ committed s (railOf s b) ≤ (s.rail (railOf s b)).admitLimit

/-- A bay in its surge stands as R42 admits it. -/
def Fit (s : State) (b : BayNo) : Prop := Drawn s b ∧ Roomy s b

theorem fit_of_rest {s : State} {b : BayNo} (h : (s.bay b).state.held ≠ some .spinup) : Fit s b :=
  ⟨fun e => absurd e h, fun e => absurd e h⟩

/-- A bay that waits on a rail in its stagger wait goes on waiting (R42, R43). -/
def Waits (s t : State) (b : BayNo) : Prop :=
  (s.rail (railOf s b)).stagger = true → (t.bay b).state.held = some .spinup → (s.bay b).state.held = some .spinup

section
variable {s t : State} (h : Aside s t) {b : BayNo}
include h

theorem Aside.sorted (k : Sorted s) : Sorted t := by rw [Sorted, h.queue]; exact k
theorem Aside.placed (k : Placed s b) : Placed t b := by
  have e : (t.bay b).priority = (s.bay b).priority := congrArg BayPower.priority (h.power b)
  rw [Placed, h.queue, h.held, e]; exact k
theorem Aside.parts {fans : RailNo → Nat} (k : Parts fans s) : Parts fans t := by
  intro r
  have e : bayCharges t r = bayCharges s r := by simp [bayCharges, railOf_eq h.dl, h.charge]
  rw [h.rail, e]; exact k r
theorem Aside.overAgrees {r : RailNo} (k : OverAgrees s r) : OverAgrees t r := by
  rw [OverAgrees, h.rail, h.committed]; exact k
theorem Aside.booked {fans : RailNo → Nat} (k : Booked fans s) : Booked fans t :=
  ⟨h.parts k.1, fun r => h.overAgrees (k.2 r)⟩
theorem Aside.due (k : Due s b) : Due t b := by
  rw [Due, h.charge, chargeDue_of_power (h.power b)]; exact k
theorem Aside.spun (k : Spun s b) : Spun t b := by
  have e := h.power b
  simp only [Bay.power, BayPower.mk.injEq] at e
  obtain ⟨e1, -, e2, -, e3, e4, -, e5, e6⟩ := e
  rw [Spun, e1, e2, e3, e4, e5, e6, h.charge, h.uptime, railOf_eq h.dl, h.rail, railDesc_eq h.dl]; exact k
theorem Aside.drawn (k : Drawn s b) : Drawn t b := by
  have e := h.power b
  simp only [Bay.power, BayPower.mk.injEq] at e
  obtain ⟨e1, -, -, -, e2, e3, e4, -, -⟩ := e
  rw [Drawn, e1, e2, e3, e4, h.profileOf]; exact k
theorem Aside.roomy (k : Roomy s b) : Roomy t b := by
  rw [Roomy, h.held, railOf_eq h.dl, h.rail, h.committed]; exact k
theorem Aside.fit (k : Fit s b) : Fit t b := ⟨h.drawn k.1, h.roomy k.2⟩
theorem Aside.waits : Waits s t b := fun _ hb => by rwa [h.held] at hb
end

theorem drawerHome_eq {s t : State} (hd : t.dl = s.dl) (h : ∀ d, (t.drawer d).state = (s.drawer d).state) (b : BayNo) :
    drawerHome t b = drawerHome s b := by
  simp only [drawerHome, bayDesc_eq hd, h]

theorem Same.home {s t : State} (h : Same s t) {b : BayNo} (k : Home s b) : Home t b := by
  rw [Home, h.held, drawerHome_eq h.dl h.drawer, bayDesc_eq h.dl, h.critical]; exact k

end Sys2Proof.Machine
end

section
/-! SUPPORT. The changes that keep the power invariants. `Beside b` is a change of bay b alone, with its charge and its entries of the
queue; `Keeps`, `Steady` and `Calm` are whole changes, each with more that it keeps of every bay. -/

namespace Sys2Proof.Machine

section
variable {s t u : State}

/-! ### Booking a charge and evaluating the over-limit condition -/

theorem bayCharges_setCharge (s : State) (b : BayNo) (c : Nat) (r : RailNo) :
    bayCharges (s.setCharge b c) r + (if railOf s b = r then s.charge b else 0) =
      bayCharges s r + (if railOf s b = r then c else 0) := by
  simp only [bayCharges, ← Fin.sum_univ_def]
  rw [← Finset.add_sum_erase _ _ (Finset.mem_univ b),
    ← Finset.add_sum_erase (Finset.univ) (fun k => if railOf s k = r then s.charge k else 0) (Finset.mem_univ b)]
  have rest : ∑ k ∈ Finset.univ.erase b, (if railOf (s.setCharge b c) k = r then (s.setCharge b c).charge k else 0) =
      ∑ k ∈ Finset.univ.erase b, (if railOf s k = r then s.charge k else 0) := by
    refine Finset.sum_congr rfl fun k hk => ?_
    rw [State.charge_setCharge_ne s (Finset.ne_of_mem_erase hk).symm]
    rfl
  rw [rest, State.charge_setCharge_same, (show railOf (s.setCharge b c) b = railOf s b from rfl)]
  omega

/-- Setting a rail's other fields leaves the sums. -/
theorem Parts.setRail {fans : RailNo → Nat} (h : Parts fans s) {r : RailNo} {v : Rail} (hb : v.bayPart = (s.rail r).bayPart)
    (hf : v.fanPart = (s.rail r).fanPart) : Parts fans (s.setRail r v) := by
  intro q
  have e : bayCharges (s.setRail r v) q = bayCharges s q := rfl
  rw [e, State.rail_setRail]
  split
  · subst q; rw [hb, hf]; exact h r
  · exact h q

/-- Booking a charge keeps the sums (R31). -/
theorem Parts.bookCharge {fans : RailNo → Nat} (h : Parts fans s) (b : BayNo) (c : Nat) : Parts fans (bookCharge b c s) := by
  intro q
  obtain ⟨hb, hf⟩ := h q
  have hsum := bayCharges_setCharge s b c q
  have e : bayCharges (Machine.bookCharge b c s) q = bayCharges (s.setCharge b c) q := rfl
  rw [e, Machine.bookCharge, State.rail_setCharge, State.rail_setRail]
  split
  · rename_i hr
    subst hr
    simp only [if_true] at hsum
    exact ⟨by dsimp only; omega, hf⟩
  · rename_i hr
    simp only [hr, if_false] at hsum
    exact ⟨by omega, hf⟩

theorem bookCharge_rail (b : BayNo) (c : Nat) (s : State) (q : RailNo) :
    (bookCharge b c s).rail q =
      if railOf s b = q then { s.rail q with bayPart := (s.rail q).bayPart + c - s.charge b } else s.rail q := by
  rw [bookCharge, State.rail_setCharge, State.rail_setRail]
  split
  · rename_i h; rw [h]
  · rfl

theorem evaluateOverLimit_rail (r : RailNo) (s : State) (q : RailNo) :
    (evaluateOverLimit r s).rail q =
      if r = q then { s.rail q with overLimit := decide ((s.rail q).admitLimit < committed s q) } else s.rail q := by
  rw [(evaluateOverLimit_cases r s).rail, State.rail_setRail]
  split
  · rename_i h; rw [h]
  · rfl

/-- Sums and OVER_LIMIT hold, but for OVER_LIMIT of a rail that waits to be evaluated. -/
def BookedBut (r : RailNo) (fans : RailNo → Nat) (s : State) : Prop := Parts fans s ∧ ∀ q, q ≠ r → OverAgrees s q

theorem Booked.but {fans : RailNo → Nat} (h : Booked fans s) (r : RailNo) : BookedBut r fans s := ⟨h.1, fun q _ => h.2 q⟩

theorem overAgrees_of_rail {r : RailNo} (hd : t.dl = s.dl) (hr : t.rail r = s.rail r) (h : OverAgrees s r) : OverAgrees t r := by
  rw [OverAgrees, hr, committed, hr, railDesc_eq hd]; exact h

theorem OverAgrees.setRail_ne {r q : RailNo} (h : OverAgrees s q) (hq : q ≠ r) (v : Rail) : OverAgrees (s.setRail r v) q :=
  overAgrees_of_rail (s := s) rfl (State.rail_setRail_ne s (Ne.symm hq) v) h

theorem BookedBut.aside {r : RailNo} {fans : RailNo → Nat} (h : BookedBut r fans s) (k : Aside s t) : BookedBut r fans t :=
  ⟨k.parts h.1, fun q hq => k.overAgrees (h.2 q hq)⟩

theorem Publishes.still (h : Publishes s t) : Same s t := (Same.refl s).publish h

/-- An evaluation puts OVER_LIMIT right (R52). -/
theorem BookedBut.evaluate {r : RailNo} {fans : RailNo → Nat} (h : BookedBut r fans s) : Booked fans (evaluateOverLimit r s) := by
  have hp := evaluateOverLimit_cases r s
  refine ⟨hp.still.parts (h.1.setRail rfl rfl), fun q => hp.still.overAgrees ?_⟩
  by_cases hq : q = r
  · subst hq
    simp only [OverAgrees, committed, State.rail_setRail_same]
    rfl
  · exact (h.2 q hq).setRail_ne hq _

theorem BookedBut.setRail {r : RailNo} {fans : RailNo → Nat} (h : BookedBut r fans s) {v : Rail}
    (hb : v.bayPart = (s.rail r).bayPart) (hf : v.fanPart = (s.rail r).fanPart) : BookedBut r fans (s.setRail r v) :=
  ⟨h.1.setRail hb hf, fun q hq => (h.2 q hq).setRail_ne hq v⟩

theorem BookedBut.bookCharge {b : BayNo} {fans : RailNo → Nat} (h : BookedBut (railOf s b) fans s) (c : Nat) :
    BookedBut (railOf s b) fans (bookCharge b c s) :=
  ⟨h.1.bookCharge b c, fun q hq => overAgrees_of_rail (s := s) rfl (by rw [bookCharge_rail, if_neg (Ne.symm hq)]) (h.2 q hq)⟩

/-- Handing a charge keeps the books (R31, R52). -/
theorem Booked.handCharge {fans : RailNo → Nat} (h : Booked fans s) (b : BayNo) (c : Nat) : Booked fans (handCharge b c s) := by
  unfold Machine.handCharge
  split
  · exact h
  · exact (publishes_publishRail _ _).still.booked ((h.but _).bookCharge c).evaluate

theorem handCharge_rail (b : BayNo) (c : Nat) (s : State) (q : RailNo) :
    (handCharge b c s).rail q = s.rail q ∨
      (railOf s b = q ∧ (handCharge b c s).rail q =
        { s.rail q with
          bayPart := (s.rail q).bayPart + c - s.charge b, overLimit := ((handCharge b c s).rail q).overLimit }) := by
  unfold Machine.handCharge
  split
  · exact .inl rfl
  · rw [(publishes_publishRail _ _).rail, evaluateOverLimit_rail, bookCharge_rail]
    split
    · rename_i h
      exact .inr ⟨h, by simp⟩
    · exact .inl rfl

/-! ### A change of one bay -/

/-- The committed draw of each rail is within its admission limit if it was. -/
def Within (s t : State) : Prop :=
  ∀ r, committed s r ≤ (s.rail r).admitLimit → committed t r ≤ (t.rail r).admitLimit

/-- A change of bay b alone, with its charge, its entries of the queue and the records: every other bay, its charge and its entries
are left, and the books stay right. A calm one lifts no committed draw above its admission limit. -/
structure Beside (b : BayNo) (calm : Prop) (s t : State) : Prop where
  uptime : t.uptime = s.uptime
  dl : t.dl = s.dl
  profiles : t.ps.profiles = s.ps.profiles
  fans : ∀ f, (t.fan f).charge = (s.fan f).charge
  drawer : ∀ d, (t.drawer d).state = (s.drawer d).state
  critical : ∀ z, (t.sense z).critical = (s.sense z).critical
  bay : ∀ k, k ≠ b → t.bay k = s.bay k
  charge : ∀ k, k ≠ b → t.charge k = s.charge k
  entries : ∀ k, k ≠ b → entriesOf k t.ps.queue = entriesOf k s.ps.queue
  sorted : Sorted s → Sorted t
  booked : ∀ fans, Booked fans s → Booked fans t
  paused : ∀ r, (t.rail r).paused = (s.rail r).paused
  stagger : ∀ r, (s.rail r).stagger = true → (t.rail r).stagger = true
  last : ∀ r, (t.rail r).lastAdmission = (s.rail r).lastAdmission ∨ (t.rail r).lastAdmission = some s.uptime
  within : calm → Within s t

variable {b : BayNo} {calm : Prop}

theorem Beside.refl (b : BayNo) (calm : Prop) (s : State) : Beside b calm s s :=
  ⟨rfl, rfl, rfl, fun _ => rfl, fun _ => rfl, fun _ => rfl, fun _ _ => rfl, fun _ _ => rfl, fun _ _ => rfl, id, fun _ => id,
    fun _ => rfl, fun _ => id, fun _ => .inl rfl, fun _ _ => id⟩

theorem Beside.trans (h : Beside b calm s t) (k : Beside b calm t u) : Beside b calm s u where
  uptime := k.uptime.trans h.uptime
  dl := k.dl.trans h.dl
  profiles := k.profiles.trans h.profiles
  fans f := (k.fans f).trans (h.fans f)
  drawer d := (k.drawer d).trans (h.drawer d)
  critical z := (k.critical z).trans (h.critical z)
  bay c hc := (k.bay c hc).trans (h.bay c hc)
  charge c hc := (k.charge c hc).trans (h.charge c hc)
  entries c hc := (k.entries c hc).trans (h.entries c hc)
  sorted := k.sorted ∘ h.sorted
  booked fans := k.booked fans ∘ h.booked fans
  paused r := (k.paused r).trans (h.paused r)
  stagger r := k.stagger r ∘ h.stagger r
  last r := by
    rcases k.last r with e | e
    · rw [e]; exact h.last r
    · exact .inr (by rw [e, h.uptime])
  within hc r := k.within hc r ∘ h.within hc r

/-- Publishing changes no bay. -/
theorem Beside.publish (h : Beside b calm s t) (k : Publishes t u) : Beside b calm s u := by
  refine h.trans
    ⟨k.uptime, k.dl, by rw [k.ps], k.still.fans, k.still.drawer, k.still.critical, fun c _ => k.bay c, fun c _ => k.charge c,
      fun c _ => by rw [k.ps], k.still.sorted, fun fans => k.still.booked, fun r => by rw [k.rail], fun r => by rw [k.rail]; exact id,
      fun r => .inl (by rw [k.rail]), fun _ r => by rw [k.still.committed, k.rail]; exact id⟩

theorem Beside.setBay (h : Beside b calm s t) (v : Bay) : Beside b calm s (t.setBay b v) :=
  h.trans
    ⟨rfl, rfl, rfl, fun _ => rfl, fun _ => rfl, fun _ => rfl, fun _ hc => State.bay_setBay_ne _ (Ne.symm hc) _, fun _ _ => rfl,
      fun _ _ => rfl, id, fun _ => id, fun _ => rfl, fun _ => id, fun _ => .inl rfl, fun _ _ => id⟩

theorem Beside.setContexts (h : Beside b calm s t) (cs : List Context) : Beside b calm s (t.setContexts cs) :=
  h.trans
    ⟨rfl, rfl, rfl, fun _ => rfl, fun _ => rfl, fun _ => rfl, fun _ _ => rfl, fun _ _ => rfl, fun _ _ => rfl, id, fun _ => id,
      fun _ => rfl, fun _ => id, fun _ => .inl rfl, fun _ _ => id⟩

theorem Beside.setQueue (h : Beside b calm s t) {q : List QueueEntry}
    (he : ∀ k, k ≠ b → entriesOf k q = entriesOf k t.ps.queue)
    (hs : t.ps.queue.Pairwise (fun x y => y.priority ≤ x.priority) → q.Pairwise (fun x y => y.priority ≤ x.priority)) :
    Beside b calm s (t.setQueue q) :=
  h.trans
    ⟨rfl, rfl, rfl, fun _ => rfl, fun _ => rfl, fun _ => rfl, fun _ _ => rfl, fun _ _ => rfl, he, hs, fun _ => id,
      fun _ => rfl, fun _ => id, fun _ => .inl rfl, fun _ _ => id⟩

theorem Beside.insert (h : Beside b calm s t) (p : Fin 4) :
    Beside b calm s (t.setQueue (insertEntry { bay := b, priority := p } t.ps.queue)) :=
  h.setQueue (fun _ hk => entriesOf_insertEntry_ne (Ne.symm hk) _) (insertEntry_sorted _)

theorem Beside.without (h : Beside b calm s t) : Beside b calm s (t.setQueue (withoutBay b t.ps.queue)) :=
  h.setQueue (fun k hk => by rw [entriesOf_withoutBay, if_neg (Ne.symm hk)]) (withoutBay_sorted b)

theorem Beside.leaveQueue (h : Beside b calm s t) : Beside b calm s (leaveQueue b t) :=
  h.without.publish (publishes_rewriteQueue _)

theorem Beside.moveBay (h : Beside b calm s t) (v : BayState) : Beside b calm s (moveBay b v t) := h.setBay _
theorem Beside.moveHeld (h : Beside b calm s t) (v : Seated) : Beside b calm s (moveHeld b v t) := h.setBay _

/-- Handing a charge for the bay; a calm one hands a charge that is not above the old one. -/
theorem Beside.handCharge (h : Beside b calm s t) {c : Nat} (hc : calm → c ≤ t.charge b) : Beside b calm s (handCharge b c t) := by
  have a := handCharge_admits 0 b c t
  have eps := congrArg State.ps a.same
  have ebc := congrArg State.bc a.same
  have etu := congrArg State.tu a.same
  have efm := congrArg State.fm a.same
  have edl : (Machine.handCharge b c t).dl = t.dl := (congrArg State.dl a.same).trans rfl
  have equeue : (Machine.handCharge b c t).ps.queue = t.ps.queue := by
    unfold Machine.handCharge
    split
    · rfl
    · rw [publishRail_ps, (evaluateOverLimit_cases _ _).ps]; rfl
  have ebay : ∀ k, (Machine.handCharge b c t).bay k = t.bay k := by
    intro k
    unfold Machine.handCharge
    split
    · rfl
    · rw [(publishes_publishRail _ _).bay, (evaluateOverLimit_cases _ _).bay]; rfl
  refine h.trans
    { uptime := a.uptime_eq, dl := edl, profiles := by rw [eps], fans := fun f => by rw [State.fan, efm]; rfl,
      drawer := fun d => by rw [State.drawer, ebc]; rfl, critical := fun z => by rw [State.sense, etu]; rfl,
      bay := fun k _ => ebay k, charge := fun k hk => by rw [handCharge_charge, if_neg (Ne.symm hk)],
      entries := fun k _ => by rw [equeue], sorted := fun k => by rw [Sorted, equeue]; exact k,
      booked := fun fans k => k.handCharge b c, paused := fun r => ?_, stagger := fun r => ?_, last := fun r => ?_,
      within := fun hcalm r => ?_ }
  · rcases handCharge_rail b c t r with e | ⟨-, e⟩ <;> rw [e]
  · rcases handCharge_rail b c t r with e | ⟨-, e⟩ <;> rw [e] <;> exact id
  · rcases handCharge_rail b c t r with e | ⟨-, e⟩ <;> rw [e] <;> exact .inl rfl
  · have hle := hc hcalm
    rcases handCharge_rail b c t r with e | ⟨-, e⟩ <;> rw [committed, committed, railDesc_eq edl, e]
    · exact id
    · intro hw; dsimp only; omega

theorem Beside.powerDown (h : Beside b calm s t) (v : Seated) (c : OffCause) : Beside b calm s (powerDown b v c t) :=
  ((h.setBay _).handCharge fun _ => Nat.zero_le _).publish (publishes_logEvent _ _)

theorem Beside.finishSlot (h : Beside b calm s t) (x : Port) (n : SlotNo) (o : Answer) : Beside b calm s (finishSlot x n o t) :=
  (((h.publish (.store _ _ _)).publish (.store _ _ _)).setContexts _).publish (publishes_noticePort _ _ (slotBit_legal n) _)

theorem Beside.finishLink (h : Beside b calm s t) (r : Result) : Beside b calm s (finishLink b r t) := by
  unfold Machine.finishLink
  split
  · dsimp only
    unfold Machine.finishLingering
    split
    · exact (h.finishSlot _ _ _).setBay _
    · exact h.setBay _
  · exact h

end

end Sys2Proof.Machine
end

section
/-! SUPPORT. Whole changes, by what they keep of every bay: `Keeps` keeps the queue's places, the charges due and the surges as an
admission leaves them; `Steady` leaves the drawers and the critical flags too; `Calm` also keeps every bay in its surge fit. -/

namespace Sys2Proof.Machine

/-- What a change keeps of one bay. -/
structure KeepsBay (s t : State) (b : BayNo) : Prop where
  placed : Placed s b → Placed t b
  due : Due s b → Due t b
  spun : Spun s b → Spun t b
  waits : Waits s t b

/-- A change that keeps the power invariants. -/
structure Keeps (s t : State) : Prop where
  uptime : t.uptime = s.uptime
  dl : t.dl = s.dl
  fans : ∀ f, (t.fan f).charge = (s.fan f).charge
  stagger : ∀ r, (s.rail r).stagger = true → (t.rail r).stagger = true
  sorted : Sorted s → Sorted t
  booked : ∀ fans, Booked fans s → Booked fans t
  bay : ∀ b, KeepsBay s t b

/-- A change that keeps them, the drawer states and the critical flags, and admits only bays that are home. -/
structure Steady (s t : State) : Prop extends Keeps s t where
  drawer : ∀ d, (t.drawer d).state = (s.drawer d).state
  critical : ∀ z, (t.sense z).critical = (s.sense z).critical
  home : ∀ b, Home s b → Home t b

/-- A change that keeps all that, and every bay in its surge fit. -/
structure Calm (s t : State) : Prop extends Steady s t where
  drawn : ∀ b, Drawn s b → Drawn t b
  roomy : ∀ b, Roomy s b → Roomy t b

section
variable {s t u : State} {b : BayNo}

theorem KeepsBay.trans (hd : t.dl = s.dl) (hs : ∀ r, (s.rail r).stagger = true → (t.rail r).stagger = true)
    (h : KeepsBay s t b) (k : KeepsBay t u b) : KeepsBay s u b :=
  ⟨k.placed ∘ h.placed, k.due ∘ h.due, k.spun ∘ h.spun,
    fun hw hu => h.waits hw (k.waits (by rw [railOf_eq hd]; exact hs _ hw) hu)⟩

theorem Keeps.trans (h : Keeps s t) (k : Keeps t u) : Keeps s u :=
  ⟨k.uptime.trans h.uptime, k.dl.trans h.dl, fun f => (k.fans f).trans (h.fans f), fun r => k.stagger r ∘ h.stagger r,
    k.sorted ∘ h.sorted, fun fans => k.booked fans ∘ h.booked fans, fun b => (h.bay b).trans h.dl h.stagger (k.bay b)⟩

theorem Steady.trans (h : Steady s t) (k : Steady t u) : Steady s u :=
  ⟨h.toKeeps.trans k.toKeeps, fun d => (k.drawer d).trans (h.drawer d), fun z => (k.critical z).trans (h.critical z),
    fun b => k.home b ∘ h.home b⟩

theorem Calm.trans (h : Calm s t) (k : Calm t u) : Calm s u :=
  ⟨h.toSteady.trans k.toSteady, fun b => k.drawn b ∘ h.drawn b, fun b => k.roomy b ∘ h.roomy b⟩

theorem Calm.fit (h : Calm s t) {b : BayNo} (k : Fit s b) : Fit t b := ⟨h.drawn b k.1, h.roomy b k.2⟩

/-! ### Changes of other parts -/

theorem Idle.keeps (h : Idle s t) : Keeps s t :=
  ⟨h.uptime, h.dl, h.fans, fun r => by rw [h.rail]; exact id, h.sorted, fun _ => h.booked,
    fun _ => ⟨h.placed, h.due, h.spun, h.waits⟩⟩

theorem Same.calm (h : Same s t) : Calm s t := ⟨⟨h.keeps, h.drawer, h.critical, fun _ => h.home⟩, fun _ => h.drawn, fun _ => h.roomy⟩

theorem Calm.refl (s : State) : Calm s s := (Same.refl s).calm

theorem Calm.same (h : Calm s t) (k : Same t u) : Calm s u := h.trans k.calm
theorem Calm.publish (h : Calm s t) (k : Publishes t u) : Calm s u := h.same k.still
theorem Keeps.publish (h : Keeps s t) (k : Publishes t u) : Keeps s u := h.trans k.still.keeps

theorem Calm.forEach {α : Type} (h : Calm s t) (l : List α) {f : α → State → State} (hf : ∀ x u, Calm u (f x u)) :
    Calm s (Machine.forEach l f t) :=
  forEach_keeps l (fun x _ u (hu : Calm s u) => hu.trans (hf x u)) t h

/-! ### Changes of one bay -/

/-- A change of bay b alone keeps every other bay. -/
theorem Beside.keepsBay {calm : Prop} (h : Beside b calm s t) {k : BayNo} (hk : k ≠ b) : KeepsBay s t k where
  placed hp := by rw [Placed, h.entries k hk, h.bay k hk]; exact hp
  due hd := by rw [Due, h.charge k hk, h.bay k hk]; exact hd
  spun hs := by
    rw [Spun, h.bay k hk, h.charge k hk, h.uptime, railOf_eq h.dl, railDesc_eq h.dl]
    intro hb
    obtain ⟨h1, h2, h3, h4, h5, h6⟩ := hs hb
    refine ⟨h1, h2, h3, h4, ?_, fun hp => h.stagger _ (h6 hp)⟩
    rcases h.last (railOf s k) with e | e
    · rw [e]; exact h5
    · exact e
  waits _ hb := by rwa [h.bay k hk] at hb

theorem Beside.home {calm : Prop} (h : Beside b calm s t) {k : BayNo} (hk : k ≠ b) (hh : Home s k) : Home t k := by
  rw [Home, h.bay k hk, drawerHome_eq h.dl h.drawer, bayDesc_eq h.dl, h.critical]; exact hh

theorem Beside.steady {calm : Prop} (h : Beside b calm s t) (hb : KeepsBay s t b) (home : Home s b → Home t b) : Steady s t where
  uptime := h.uptime
  dl := h.dl
  fans := h.fans
  stagger := h.stagger
  sorted := h.sorted
  booked := h.booked
  bay k := if hk : k = b then hk ▸ hb else h.keepsBay hk
  drawer := h.drawer
  critical := h.critical
  home k := if hk : k = b then hk ▸ home else h.home hk

theorem Beside.drawn {calm : Prop} (h : Beside b calm s t) {k : BayNo} (hk : k ≠ b) (hf : Drawn s k) : Drawn t k := by
  have e : profileOf t k = profileOf s k := by simp [profileOf, State.profile, h.profiles, h.bay k hk]
  rw [Drawn, h.bay k hk, e]
  exact hf

theorem Beside.roomy (h : Beside b True s t) {k : BayNo} (hk : k ≠ b) (hf : Roomy s k) : Roomy t k := by
  rw [Roomy, h.bay k hk, railOf_eq h.dl, h.paused]
  exact fun hb => ⟨(hf hb).1, h.within trivial _ (hf hb).2⟩

theorem Beside.calm (h : Beside b True s t) (hb : KeepsBay s t b) (home : Home s b → Home t b)
    (drawn : Drawn s b → Drawn t b) (roomy : Roomy s b → Roomy t b) : Calm s t :=
  ⟨h.steady hb home, fun k => if hk : k = b then hk ▸ drawn else h.drawn hk,
    fun k => if hk : k = b then hk ▸ roomy else h.roomy hk⟩

end

end Sys2Proof.Machine
end

section
/-! SUPPORT. An admission read field by field (R42, R43). -/

namespace Sys2Proof.Machine

section
variable {s : State} {b : BayNo} {r : RailNo}

/-! ### The parts of an admission -/

/-- The bay in its surge and out of the queue: the part of an admission that comes before the booking (R42). -/
def surgeBegun (b : BayNo) (s : State) : State :=
  (s.setQueue (withoutBay b s.ps.queue)).setBay b (admittedBay (s.bay b) (profileOf s b) s.uptime)

/-- A rail's last admission time and its stagger wait (R42, R43). -/
def noteAdmission (r : RailNo) (s : State) : State :=
  s.setRail r
    { s.rail r with lastAdmission := some s.uptime, stagger := (s.rail r).stagger || decide (0 < (s.railDesc r).stagger) }

/-- An admission with its charge booked, before the event and the records. -/
def admissionBooked (r : RailNo) (b : BayNo) (s : State) : State :=
  noteAdmission r (bookCharge b (profileOf s b).surge (surgeBegun b s))

/-- The records and notices of an admission, after its evaluation of the over-limit condition. -/
theorem admitBay_publishes (r : RailNo) (b : BayNo) (s : State) :
    Publishes
      (evaluateOverLimit r
        (logEvent (eventAdmitted b r ((admissionBooked r b s).bay b).priority (committed (admissionBooked r b s) r))
          (admissionBooked r b s)))
      (admitBay r b s) :=
  ((publishes_rewriteQueue _).trans (publishes_rewriteRail r _)).trans (publishes_publishBay b _)

/-! ### Its effect, field by field -/

/-- A rail's entry after an admission: the charge booked, the time noted, the stagger wait begun and OVER_LIMIT evaluated (R42,
R43). -/
def admittedRail (v : Rail) (d : RailDesc) (old : Nat) (p : Profile) (u : Uptime) : Rail :=
  { v with
    bayPart := v.bayPart + p.surge - old, lastAdmission := some u, stagger := v.stagger || decide (0 < d.stagger)
    overLimit := decide (v.admitLimit < d.base + (v.bayPart + p.surge - old) + v.fanPart) }

theorem surgeBegun_bay (k : BayNo) :
    (surgeBegun b s).bay k = if b = k then admittedBay (s.bay k) (profileOf s k) s.uptime else s.bay k := by
  rw [surgeBegun, State.bay_setBay]
  split
  · rename_i h; rw [h]
  · rfl

theorem admissionBooked_rail (hr : railOf s b = r) (q : RailNo) :
    (admissionBooked r b s).rail q =
      if r = q then
        { s.rail q with
          bayPart := (s.rail q).bayPart + (profileOf s b).surge - s.charge b, lastAdmission := some s.uptime
          stagger := (s.rail q).stagger || decide (0 < (s.railDesc q).stagger) }
      else s.rail q := by
  rw [admissionBooked, noteAdmission, State.rail_setRail, bookCharge_rail, bookCharge_rail,
    show railOf (surgeBegun b s) b = r from hr]
  split
  · rename_i h; subst h; simp only [if_true]; rfl
  · rfl

theorem admitBay_rail (hr : railOf s b = r) (q : RailNo) :
    (admitBay r b s).rail q =
      if r = q then admittedRail (s.rail q) (s.railDesc q) (s.charge b) (profileOf s b) s.uptime else s.rail q := by
  rw [(admitBay_publishes r b s).rail, evaluateOverLimit_rail, (publishes_logEvent _ _).rail,
    (publishes_logEvent _ _).still.committed, committed, admissionBooked_rail hr]
  split
  · rfl
  · rfl

theorem admitBay_bay (k : BayNo) :
    (admitBay r b s).bay k = if b = k then admittedBay (s.bay k) (profileOf s k) s.uptime else s.bay k := by
  rw [(admitBay_publishes r b s).bay, (evaluateOverLimit_cases _ _).bay, State.bay_setRail, (publishes_logEvent _ _).bay]
  exact surgeBegun_bay k

theorem admitBay_charge (k : BayNo) : (admitBay r b s).charge k = if b = k then (profileOf s b).surge else s.charge k := by
  rw [(admitBay_publishes r b s).charge, (evaluateOverLimit_cases _ _).charge, State.charge_setRail,
    (publishes_logEvent _ _).charge]
  exact State.charge_setCharge _ b k _

theorem admitBay_queue : (admitBay r b s).ps.queue = withoutBay b s.ps.queue := by
  rw [(admitBay_publishes r b s).ps, (evaluateOverLimit_cases _ _).ps, State.setRail_ps_queue, (publishes_logEvent _ _).ps]
  rfl

/-- An admission keeps the books (R31, R52). -/
theorem Booked.admitBay {fans : RailNo → Nat} (h : Booked fans s) (hr : railOf s b = r) :
    Booked fans (admitBay r b s) := by
  subst hr
  have begun : BookedBut (railOf (surgeBegun b s) b) fans (surgeBegun b s) := (show Booked fans (surgeBegun b s) from h).but _
  have booked : BookedBut (railOf s b) fans (admissionBooked (railOf s b) b s) := (begun.bookCharge _).setRail rfl rfl
  exact (admitBay_publishes _ b s).still.booked (booked.aside (publishes_logEvent _ _).still.toAside).evaluate

/-- An admission raises the committed draw by the surge draw at most. -/
theorem admitBay_committed (hr : railOf s b = r) (hd : (admitBay r b s).dl = s.dl) (q : RailNo) :
    committed (admitBay r b s) q ≤ committed s q + if r = q then (profileOf s b).surge else 0 := by
  rw [committed, committed, railDesc_eq hd, admitBay_rail hr]
  split
  · simp only [admittedRail]; omega
  · omega

/-! ### What an admission keeps -/

/-- An admission within the admission limit, as a change of one bay (R42). -/
theorem admitBay_beside (hr : railOf s b = r) (hq : (s.bay b).state = .seated .queued) (hf : fits s r b = true) :
    Beside b True s (admitBay r b s) := by
  have a := admitBay_admits r b s hr hq
  have hd : (admitBay r b s).dl = s.dl := a.quiet.dl
  have efm : (admitBay r b s).fm = s.fm := (congrArg State.fm a.same).trans rfl
  have etu : (admitBay r b s).tu = s.tu := (congrArg State.tu a.same).trans rfl
  have edr : (admitBay r b s).bc.drawers = s.bc.drawers := (congrArg (fun u : State => u.bc.drawers) a.same).trans rfl
  have epr : (admitBay r b s).ps.profiles = s.ps.profiles := (congrArg (fun u : State => u.ps.profiles) a.same).trans rfl
  refine
    { uptime := a.uptime_eq, dl := hd, profiles := epr, fans := fun f => by rw [State.fan, efm]; rfl,
      drawer := fun d => by rw [State.drawer, edr]; rfl, critical := fun z => by rw [State.sense, etu]; rfl,
      bay := fun k hk => by rw [admitBay_bay, if_neg (Ne.symm hk)],
      charge := fun k hk => by rw [admitBay_charge, if_neg (Ne.symm hk)],
      entries := fun k hk => by rw [admitBay_queue, entriesOf_withoutBay, if_neg (Ne.symm hk)],
      sorted := fun h => by rw [Sorted, admitBay_queue]; exact withoutBay_sorted b h,
      booked := fun fans h => h.admitBay hr, paused := fun q => ?_, stagger := fun q => ?_, last := fun q => ?_,
      within := fun _ q hw => ?_ } <;> rw [admitBay_rail hr]
  · split <;> rfl
  · split
    · intro h; simp [admittedRail, h]
    · exact id
  · split
    · exact .inr rfl
    · exact .inl rfl
  · have hc := admitBay_committed hr hd q
    split at hc
    · rename_i h
      subst h
      simp only [fits, decide_eq_true_eq] at hf
      simp only [if_true, admittedRail]
      omega
    · rename_i h
      rw [if_neg h]
      omega

/-- An admission of an eligible bay that fits, on a rail that is neither PAUSED nor in its stagger wait, keeps every bay (R42). -/
theorem admitBay_calm (hr : railOf s b = r) (he : eligible s b = true) (hf : fits s r b = true)
    (hp : (s.rail r).paused = false) (hs : (s.rail r).stagger = false) : Calm s (admitBay r b s) := by
  simp only [eligible, Bool.and_eq_true, decide_eq_true_eq, Bool.not_eq_true'] at he
  obtain ⟨⟨hq, hdrawer⟩, hcritical⟩ := he
  have k := admitBay_beside hr hq hf
  have hbay : (admitBay r b s).bay b = admittedBay (s.bay b) (profileOf s b) s.uptime := by rw [admitBay_bay, if_pos rfl]
  have hcharge : (admitBay r b s).charge b = (profileOf s b).surge := by rw [admitBay_charge, if_pos rfl]
  have hrail : (admitBay r b s).rail r = admittedRail (s.rail r) (s.railDesc r) (s.charge b) (profileOf s b) s.uptime := by
    rw [admitBay_rail hr, if_pos rfl]
  have hprofile : profileOf (admitBay r b s) b = profileOf s b := by
    simp [profileOf, State.profile, k.profiles, hbay, admittedBay]
  subst hr
  refine k.calm ⟨fun _ => ?placed, fun _ => ?due, fun _ => ?spun, fun h => ?waits⟩ (fun _ => ?home)
    (fun _ => ?drawn) fun _ => ?roomy
  case placed =>
    rw [Placed, admitBay_queue, entriesOf_withoutBay, if_pos rfl, hbay]
    rfl
  case due => rw [Due, hcharge, hbay]; rfl
  case spun =>
    rw [Spun, hbay, hcharge, railOf_eq k.dl, railDesc_eq k.dl, hrail, k.uptime]
    exact fun _ => ⟨rfl, rfl, rfl, rfl, rfl, fun h => by simp [admittedRail, h]⟩
  case waits => exact absurd h (by simp [hs])
  case home =>
    rw [Home, drawerHome_eq k.dl k.drawer, bayDesc_eq k.dl, k.critical]
    exact fun _ => ⟨hdrawer, hcritical⟩
  case drawn => rw [Drawn, hbay, hprofile]; exact fun _ => ⟨rfl, rfl, rfl⟩
  case roomy =>
    have hw := admitBay_committed rfl k.dl (railOf s b)
    simp only [fits, decide_eq_true_eq] at hf
    rw [if_pos rfl] at hw
    rw [Roomy, railOf_eq k.dl, hrail]
    exact fun _ => ⟨hp, hw.trans hf⟩

end

end Sys2Proof.Machine
end

section
/-! SUPPORT. The power sequencer's operations by what they keep: examinations, joins and leaves, crossings and limits (R30, R35 to R43,
R48 to R50). -/

namespace Sys2Proof.Machine

section
variable {s t u : State} {b : BayNo} {r : RailNo}

/-! ### Fields of a rail that no invariant of the bays reads -/

/-- Setting fields of a rail other than STAGGER and the last admission time is steady if it keeps the books. -/
theorem steady_setRail_of_booked (s : State) (r : RailNo) {v : Rail} (hs : v.stagger = (s.rail r).stagger)
    (hl : v.lastAdmission = (s.rail r).lastAdmission) (hb : ∀ fans, Booked fans s → Booked fans (s.setRail r v)) :
    Steady s (s.setRail r v) := by
  have hrail : ∀ q, ((s.setRail r v).rail q).stagger = (s.rail q).stagger ∧
      ((s.setRail r v).rail q).lastAdmission = (s.rail q).lastAdmission := by
    intro q
    rw [State.rail_setRail]
    split
    · rename_i h; subst h; exact ⟨hs, hl⟩
    · exact ⟨rfl, rfl⟩
  refine ⟨⟨rfl, rfl, fun _ => rfl, fun q => by rw [(hrail q).1]; exact id, id, hb, fun k => ⟨id, id, fun h => ?_, fun _ h => h⟩⟩,
    fun _ => rfl, fun _ => rfl, fun _ => id⟩
  have e := hrail (railOf s k)
  rw [Spun, show railOf (s.setRail r v) k = railOf s k from rfl, e.1, e.2]
  exact h

/-- Setting the fields of a rail that neither the books nor STAGGER nor the last admission time is among is steady. -/
theorem steady_setRail (s : State) (r : RailNo) {v : Rail}
    (hv : v = { s.rail r with
      dual := v.dual, single := v.single, trip := v.trip, holdOffEnd := v.holdOffEnd, paused := v.paused,
      blocked := v.blocked, sense := v.sense }) : Steady s (s.setRail r v) := by
  refine steady_setRail_of_booked s r (by rw [hv]) (by rw [hv])
    fun fans h => ⟨h.1.setRail (by rw [hv]) (by rw [hv]), fun q => ?_⟩
  by_cases hq : q = r
  · subst hq
    have h := h.2 q
    rw [OverAgrees, committed, State.rail_setRail_same, hv]
    exact h
  · exact (h.2 q).setRail_ne hq v

/-- If such a change does not pause the rail it is calm. -/
theorem calm_setRail (s : State) (r : RailNo) {v : Rail}
    (hv : v = { s.rail r with
      dual := v.dual, single := v.single, trip := v.trip, holdOffEnd := v.holdOffEnd, paused := v.paused,
      blocked := v.blocked, sense := v.sense }) (hp : v.paused = true → (s.rail r).paused = true) : Calm s (s.setRail r v) := by
  refine ⟨steady_setRail s r hv, fun _ => id, fun k hk hb => ?_⟩
  obtain ⟨h4, h5⟩ := hk hb
  rw [show railOf (s.setRail r v) k = railOf s k from rfl, committed, State.rail_setRail]
  split
  · rename_i h
    subst h
    refine ⟨by simpa [h4] using hp, ?_⟩
    rw [hv]
    exact h5
  · exact ⟨h4, h5⟩

theorem setBlocked_calm (r : RailNo) (v : Option BayNo) (s : State) : Calm s (setBlocked r v s) := calm_setRail s r rfl id

/-! ### Examinations (R39 to R41) -/

theorem candidate_eligible {e : QueueEntry} (h : candidate s r = some e) : railOf s e.bay = r ∧ eligible s e.bay = true := by
  have h2 := List.find?_some h
  simpa using h2

theorem setBlocked_rail (r : RailNo) (v : Option BayNo) (s : State) :
    (setBlocked r v s).rail r = { s.rail r with blocked := v } := State.rail_setRail_same _ _ _

theorem setBlocked_fits (r : RailNo) (v : Option BayNo) (s : State) (b : BayNo) : fits (setBlocked r v s) r b = fits s r b := by
  simp only [fits, committed, setBlocked_rail]
  rfl

theorem examineWith_calm (fuel : Nat) (r : RailNo) (s : State) : Calm s (examineWith fuel r s) := by
  induction fuel generalizing s with
  | zero => exact .refl s
  | succ n ih =>
    have left : ∀ v, Calm s (publishRail r (setBlocked r v s)) := fun v =>
      (setBlocked_calm r v s).publish (publishes_publishRail r _)
    unfold examineWith
    split
    · exact left none
    · rename_i e he
      obtain ⟨hr, hel⟩ := candidate_eligible he
      split
      · rename_i hf
        split
        · exact left none
        · rename_i hw
          simp only [not_or, Bool.not_eq_true] at hw
          refine ((setBlocked_calm r none s).trans (admitBay_calm hr hel ?_ ?_ ?_)).trans (ih _)
          · rw [setBlocked_fits]; exact hf
          · rw [setBlocked_rail]; exact hw.1
          · rw [setBlocked_rail]; exact hw.2
      · exact left _

/-- An examination of a rail keeps every bay: it admits only bays that are home, fit and not waiting (R38 to R42). -/
theorem examineRail_calm (r : RailNo) (s : State) : Calm s (examineRail r s) := examineWith_calm _ r s

theorem examineIf_calm (c : Bool) (b : BayNo) (s : State) : Calm s (examineIf c b s) := by
  unfold examineIf
  split
  · exact examineRail_calm _ s
  · exact .refl s

theorem examineRailsOf_calm (p : BayNo → Bool) (s : State) : Calm s (examineRailsOf p s) :=
  (Calm.refl s).forEach _ fun r u => by
    split
    · exact examineRail_calm r u
    · exact .refl u

/-! ### A bay at rest, and a bay that joins or moves -/

theorem entriesOf_nil_of_placed (h : Placed s b) (hb : (s.bay b).state.held ≠ some .queued) : entriesOf b s.ps.queue = [] := by
  rwa [Placed, if_neg hb] at h

/-- A change of a bay that was not QUEUED and is not, and was left out of the queue, keeps its place. -/
theorem placed_of_out (hs : (s.bay b).state.held ≠ some .queued) (ht : (t.bay b).state.held ≠ some .queued)
    (hq : t.ps.queue = s.ps.queue) (h : Placed s b) : Placed t b := by
  rw [Placed, if_neg ht, hq]
  exact entriesOf_nil_of_placed h hs

theorem chargeDue_zero {v : Bay} (h1 : v.state.held ≠ some .spinup) (h2 : v.state.held ≠ some .active) : chargeDue v = 0 := by
  unfold chargeDue
  split
  case h_1 e => exact absurd e h1
  case h_2 e => exact absurd e h2
  all_goals rfl

/-- A change of one bay that leaves it out of SPINUP keeps every bay, if it keeps that bay's place and its charge due. -/
theorem Beside.calm_of_rest (h : Beside b True s t) (hb : (t.bay b).state.held ≠ some .spinup) (placed : Placed s b → Placed t b)
    (due : Due s b → Due t b) : Calm s t :=
  h.calm ⟨placed, due, fun _ e => absurd e hb, fun _ e => absurd e hb⟩ (fun _ e => absurd e hb) (fun _ e => absurd e hb)
    fun _ e => absurd e hb

theorem Beside.steady_of_rest {calm : Prop} (h : Beside b calm s t) (hb : (t.bay b).state.held ≠ some .spinup)
    (placed : Placed s b → Placed t b) (due : Due s b → Due t b) : Steady s t :=
  h.steady ⟨placed, due, fun _ e => absurd e hb, fun _ e => absurd e hb⟩ fun _ e => absurd e hb

/-- The bay's entry put into the queue at the priority its field holds, and the queue view (R35). -/
def enqueue (b : BayNo) (q : List QueueEntry) (s : State) : State :=
  rewriteQueue (s.setQueue (insertEntry { bay := b, priority := (s.bay b).priority } q))

theorem joinQueue_eq (b : BayNo) (s : State) : joinQueue b s = examineRail (railOf s b) (enqueue b s.ps.queue s) := rfl

theorem moveInQueue_eq (b : BayNo) (s : State) :
    moveInQueue b s = examineRail (railOf s b) (enqueue b (withoutBay b s.ps.queue) s) := rfl

theorem enqueue_bay (k : BayNo) (q : List QueueEntry) : (enqueue b q s).bay k = s.bay k := (publishes_rewriteQueue _).bay k
theorem enqueue_charge (k : BayNo) (q : List QueueEntry) : (enqueue b q s).charge k = s.charge k := (publishes_rewriteQueue _).charge k
theorem enqueue_queue (q : List QueueEntry) :
    (enqueue b q s).ps.queue = insertEntry { bay := b, priority := (s.bay b).priority } q :=
  congrArg PowerSequencer.queue (publishes_rewriteQueue _).ps

/-- A bay that is QUEUED after its entry was put into a queue that had none of it has its place. -/
theorem placed_enqueue {q : List QueueEntry} (hq : entriesOf b q = []) (hb : (s.bay b).state.held = some .queued) :
    Placed (enqueue b q s) b := by
  rw [Placed, enqueue_bay, if_pos hb, enqueue_queue]
  exact entriesOf_insertEntry_same (e := { bay := b, priority := (s.bay b).priority }) hq

theorem Beside.enqueue {calm : Prop} (h : Beside b calm s t) : Beside b calm s (enqueue b t.ps.queue t) :=
  (h.insert _).publish (publishes_rewriteQueue _)

/-- A bay that a change leaves QUEUED, outside the queue and without a charge, joins the queue, and its rail is examined (R35). -/
theorem Beside.joinQueue (h : Beside b True s t) (hs : (s.bay b).state.held ≠ some .queued)
    (ht : (t.bay b).state.held = some .queued) (hq : t.ps.queue = s.ps.queue) (hc : Due s b → t.charge b = 0) :
    Calm s (joinQueue b t) := by
  have hbay := enqueue_bay (s := t) (b := b) b t.ps.queue
  have joined : Calm s (Machine.enqueue b t.ps.queue t) := by
    refine h.enqueue.calm_of_rest ?rest (fun hp => ?placed) fun hd => ?due
    case rest => rw [hbay, ht]; simp
    case placed => exact placed_enqueue (by rw [hq]; exact entriesOf_nil_of_placed hp hs) ht
    case due => rw [Due, enqueue_charge, hbay, hc hd, chargeDue_zero] <;> simp [ht]
  exact joined.trans (examineRail_calm _ _)

/-- A bay that a change leaves QUEUED moves in the queue to the place of its priority, and its rail is examined (R36). -/
theorem Beside.moveInQueue (h : Beside b True s t) (ht : (t.bay b).state.held = some .queued) (hd : Due s b → Due t b) :
    Calm s (moveInQueue b t) := by
  have moved : Beside b True s (Machine.enqueue b (withoutBay b t.ps.queue) t) :=
    ((h.without).insert (t.bay b).priority).publish (publishes_rewriteQueue _)
  refine (moved.calm_of_rest ?rest (fun _ => ?placed) fun hs => ?due).trans (examineRail_calm _ _)
  case rest => rw [enqueue_bay, ht]; simp
  case placed => exact placed_enqueue (by rw [entriesOf_withoutBay, if_pos rfl]) ht
  case due => rw [Due, enqueue_bay, enqueue_charge]; exact hd hs

/-! ### Crossings and pauses (R48 to R50) -/

theorem takeRising_steady (r : RailNo) (s : State) : Steady s (takeRising r s) := by
  unfold takeRising
  split
  · exact steady_setRail s r rfl
  · exact (steady_setRail s r rfl).trans (publishes_logEvent _ _).still.calm.toSteady

theorem endPause_calm (r : RailNo) (s : State) : Calm s (endPause r s) :=
  (calm_setRail s r rfl (by simp)).publish (publishes_logEvent _ _)

theorem takeFalling_calm (r : RailNo) (s : State) : Calm s (takeFalling r s) := by
  unfold takeFalling
  split
  · split
    · exact endPause_calm r s
    · exact calm_setRail s r rfl id
  · exact .refl s

end

end Sys2Proof.Machine
end

section
/-! SUPPORT. A new admission limit and the supply state, and the frame of an examination (R28 to R30, R41). -/

namespace Sys2Proof.Machine

section
variable {s t u : State} {b : BayNo} {r : RailNo}

/-! ### The frame of an examination -/

theorem Admits.profiles_eq (h : Admits r s t) : t.ps.profiles = s.ps.profiles := by rw [h.same]
theorem Admits.lines_eq (h : Admits r s t) : t.ps.lines = s.ps.lines := by rw [h.same]
theorem Admits.supply_eq (h : Admits r s t) : t.ps.supply = s.ps.supply := by rw [h.same]

theorem leftOrAdmitted_refl (s : State) (b : BayNo) : leftOrAdmitted s s b := .inl ⟨rfl, rfl, rfl⟩

/-- What an examination of rail r changes of the rails: on r the bay part, the last admission time, STAGGER, BLOCKED and OVER_LIMIT,
and no other rail; and each bay is left or admitted. -/
structure Examines (r : RailNo) (s t : State) : Prop extends Admits r s t where
  rail_ne : ∀ q, q ≠ r → t.rail q = s.rail q
  rail : t.rail r = { s.rail r with
    bayPart := (t.rail r).bayPart, lastAdmission := (t.rail r).lastAdmission, stagger := (t.rail r).stagger,
    blocked := (t.rail r).blocked, overLimit := (t.rail r).overLimit }
  left : ∀ b, leftOrAdmitted s t b

theorem Examines.trans (h : Examines r s t) (k : Examines r t u) : Examines r s u where
  toAdmits := h.toAdmits.trans k.toAdmits
  rail_ne q hq := (k.rail_ne q hq).trans (h.rail_ne q hq)
  rail := by rw [k.rail, h.rail]
  left b := by
    rcases h.left b with ⟨h1, h2, h3⟩ | ⟨h1, h2, h3, h4⟩
    · rcases k.left b with ⟨k1, k2, k3⟩ | ⟨k1, k2, k3, k4⟩
      · exact .inl ⟨k1.trans h1, k2.trans h2, k3.trans h3⟩
      · exact .inr ⟨by rw [← h1]; exact k1, k2, k3, k4⟩
    · have e : u.bay b = t.bay b := k.toAdmits.bay_same (by rw [h2]; simp)
      exact .inr ⟨h1, by rw [e]; exact h2, by rw [e]; exact h3, fun x hx => h4 x (k.queue.subset hx)⟩

theorem publishes_examines (k : Publishes s t) (r : RailNo) : Examines r s t where
  toAdmits := k.admits r
  rail_ne q _ := k.rail q
  rail := by rw [k.rail]
  left b := .inl ⟨k.bay b, k.charge b, by rw [k.ps]⟩

theorem setBlocked_examines (r : RailNo) (v : Option BayNo) (s : State) : Examines r s (setBlocked r v s) where
  toAdmits := setBlocked_admits r v s
  rail_ne q hq := State.rail_setRail_ne s (Ne.symm hq) _
  rail := by rw [setBlocked_rail]
  left b := leftOrAdmitted_refl s b

theorem admitBay_examines (hr : railOf s b = r) (hq : (s.bay b).state = .seated .queued) : Examines r s (admitBay r b s) where
  toAdmits := admitBay_admits r b s hr hq
  rail_ne q hqr := by rw [admitBay_rail hr, if_neg (Ne.symm hqr)]
  rail := by rw [admitBay_rail hr, if_pos rfl]; rfl
  left k := by
    by_cases hk : b = k
    · subst hk
      refine .inr ⟨hq, ?_, ?_, fun e he => ?_⟩
      · rw [admitBay_bay, if_pos rfl]; rfl
      · rw [admitBay_bay, if_pos rfl]; rfl
      · rw [admitBay_queue] at he
        simpa using (List.mem_filter.mp he).2
    · refine .inl ⟨by rw [admitBay_bay, if_neg hk], by rw [admitBay_charge, if_neg hk], ?_⟩
      have e := entriesOf_withoutBay b k s.ps.queue
      rw [if_neg hk] at e
      rw [admitBay_queue]
      exact e

theorem examineWith_examines (fuel : Nat) (r : RailNo) (s : State) : Examines r s (examineWith fuel r s) := by
  induction fuel generalizing s with
  | zero => exact publishes_examines (.refl s) r
  | succ n ih =>
    have left : ∀ v, Examines r s (publishRail r (setBlocked r v s)) := fun v =>
      (setBlocked_examines r v s).trans (publishes_examines (publishes_publishRail r _) r)
    unfold examineWith
    split
    · exact left none
    · rename_i e he
      obtain ⟨-, hr, hq⟩ := candidate_spec he
      split
      · split
        · exact left none
        · exact ((setBlocked_examines r none s).trans (admitBay_examines hr hq)).trans (ih _)
      · exact left _

/-- The frame of an examination of a rail (R41). -/
theorem examineRail_examines (r : RailNo) (s : State) : Examines r s (examineRail r s) := examineWith_examines _ r s

/-! ### Changes after which the bays they make spin up fit -/

/-- Every bay that was not in its surge before is fit after, so that a bay which the change makes spin up is. -/
def Settles (s t : State) : Prop := ∀ b, (s.bay b).state.held ≠ some .spinup → Fit t b

theorem Calm.settles (h : Calm s t) : Settles s t := fun _ hb => h.fit (fit_of_rest hb)

theorem Settles.of_prior (h : ∀ b, (s.bay b).state.held ≠ some .spinup → (t.bay b).state.held ≠ some .spinup) (k : Calm t u) :
    Settles s u := fun b hb => k.settles b (h b hb)

theorem Settles.trans_calm (h : Settles s t) (k : Calm t u) : Settles s u := fun b hb => k.fit (h b hb)

/-! ### A new admission limit (R30, R48 to R50) -/

theorem Publishes.setRail (h : Publishes s t) (r : RailNo) (v : Rail) : Publishes (s.setRail r v) (t.setRail r v) :=
  ⟨by conv => lhs; rw [h.same]
      rfl, h.pa, h.pb, h.wf⟩

theorem setRail_setRail (s : State) (r : RailNo) (v w : Rail) : (s.setRail r v).setRail r w = s.setRail r w := by
  simp [State.setRail]

/-- A crossing sets PAUSED and the hold-off end of its rail and publishes. -/
theorem takeCrossing_publishes (r : RailNo) (w : Bool) (s : State) :
    ∃ p e, Publishes (s.setRail r { s.rail r with paused := p, holdOffEnd := e }) (takeCrossing r w s) := by
  have left : ∃ p e, Publishes (s.setRail r { s.rail r with paused := p, holdOffEnd := e }) s :=
    ⟨(s.rail r).paused, (s.rail r).holdOffEnd, by
      have e : s.setRail r { s.rail r with paused := (s.rail r).paused, holdOffEnd := (s.rail r).holdOffEnd } = s :=
        State.setRail_self s r
      rw [e]; exact .refl s⟩
  unfold takeCrossing
  split
  · unfold takeRising
    split
    · rename_i hp
      exact ⟨true, none, by rw [← hp]; exact .refl _⟩
    · exact ⟨true, (s.rail r).holdOffEnd, publishes_logEvent _ _⟩
  · unfold takeFalling
    split
    · rename_i hp
      split
      · exact ⟨false, none, publishes_logEvent _ _⟩
      · exact ⟨true, _, by rw [← hp]; exact .refl _⟩
    · exact left
  · exact left
  · exact left

/-- The new admission limit and trip level stored, the crossing taken and OVER_LIMIT evaluated: the part of a recomputation before its
examination (R30). -/
def limitMoved (r : RailNo) (s : State) : State :=
  evaluateOverLimit r
    (takeCrossing r (s.rail r).above
      (s.setRail r
        { s.rail r with
          admitLimit := limitFor s.ps.supply (s.rail r)
          trip := tripLevel (limitFor s.ps.supply (s.rail r)) (s.railDesc r).level }))

theorem recomputeLimit_eq (r : RailNo) (s : State) :
    recomputeLimit r s =
      if limitFor s.ps.supply (s.rail r) = (s.rail r).admitLimit then s else publishRail r (examineRail r (limitMoved r s)) := rfl

/-- A rail's entry with a new admission limit, its trip level and OVER_LIMIT, and a pause as the crossing left it. -/
def movedRail (s : State) (r : RailNo) (p : Bool) (e : Option Uptime) : Rail :=
  { s.rail r with
    admitLimit := limitFor s.ps.supply (s.rail r)
    trip := tripLevel (limitFor s.ps.supply (s.rail r)) (s.railDesc r).level
    paused := p, holdOffEnd := e, overLimit := decide (limitFor s.ps.supply (s.rail r) < committed s r) }

theorem limitMoved_publishes (r : RailNo) (s : State) :
    ∃ p e, Publishes (s.setRail r (movedRail s r p e)) (limitMoved r s) := by
  obtain ⟨p, e, h⟩ := takeCrossing_publishes r (s.rail r).above
    (s.setRail r
      { s.rail r with
        admitLimit := limitFor s.ps.supply (s.rail r)
        trip := tripLevel (limitFor s.ps.supply (s.rail r)) (s.railDesc r).level })
  refine ⟨p, e, ?_⟩
  have k := evaluateOverLimit_cases r (takeCrossing r (s.rail r).above
    (s.setRail r
      { s.rail r with
        admitLimit := limitFor s.ps.supply (s.rail r)
        trip := tripLevel (limitFor s.ps.supply (s.rail r)) (s.railDesc r).level }))
  refine Publishes.trans ?_ k
  rw [h.rail, h.still.committed, committed]
  simp only [State.rail_setRail_same]
  have m := h.setRail r (movedRail s r p e)
  rw [setRail_setRail, setRail_setRail] at m
  exact m

theorem limitMoved_steady (r : RailNo) (s : State) : Steady s (limitMoved r s) := by
  obtain ⟨p, e, h⟩ := limitMoved_publishes r s
  refine (steady_setRail_of_booked s r (v := movedRail s r p e) rfl rfl fun fans k => ⟨k.1.setRail rfl rfl, fun q => ?_⟩).trans h.still.calm.toSteady
  by_cases hq : q = r
  · subst hq
    rw [OverAgrees, committed, State.rail_setRail_same]
    rfl
  · exact (k.2 q).setRail_ne hq _

theorem limitMoved_bay (r : RailNo) (s : State) (b : BayNo) : (limitMoved r s).bay b = s.bay b := by
  obtain ⟨p, e, h⟩ := limitMoved_publishes r s
  exact h.bay b

theorem recomputeLimit_steady (r : RailNo) (s : State) : Steady s (recomputeLimit r s) := by
  rw [recomputeLimit_eq]
  split
  · exact (Calm.refl s).toSteady
  · exact (limitMoved_steady r s).trans ((examineRail_calm r _).publish (publishes_publishRail r _)).toSteady

theorem recomputeLimit_settles (r : RailNo) (s : State) : Settles s (recomputeLimit r s) := by
  rw [recomputeLimit_eq]
  split
  · exact (Calm.refl s).settles
  · exact Settles.of_prior (fun b hb => by rwa [limitMoved_bay]) ((examineRail_calm r _).publish (publishes_publishRail r _))

theorem limitMoved_ps (r : RailNo) (s : State) :
    (limitMoved r s).ps.profiles = s.ps.profiles ∧ (limitMoved r s).ps.lines = s.ps.lines ∧
    (limitMoved r s).ps.supply = s.ps.supply := by
  obtain ⟨p, e, h⟩ := limitMoved_publishes r s
  rw [h.ps]
  exact ⟨rfl, rfl, rfl⟩

theorem recomputeLimit_ps (r : RailNo) (s : State) :
    (recomputeLimit r s).ps.profiles = s.ps.profiles ∧ (recomputeLimit r s).ps.lines = s.ps.lines ∧
    (recomputeLimit r s).ps.supply = s.ps.supply := by
  rw [recomputeLimit_eq]
  split
  · exact ⟨rfl, rfl, rfl⟩
  · have k := examineRail_admits r (limitMoved r s)
    obtain ⟨h1, h2, h3⟩ := limitMoved_ps r s
    rw [publishRail_ps]
    exact ⟨k.profiles_eq.trans h1, k.lines_eq.trans h2, k.supply_eq.trans h3⟩

/-- A new admission limit leaves the bays in their surge at their profiles' draws. -/
theorem recomputeLimit_drawn (r : RailNo) (s : State) {b : BayNo} (h : Drawn s b) : Drawn (recomputeLimit r s) b := by
  rw [recomputeLimit_eq]
  split
  · exact h
  · refine ((examineRail_calm r _).publish (publishes_publishRail r _)).drawn b ?_
    have e : profileOf (limitMoved r s) b = profileOf s b := by
      simp [profileOf, State.profile, limitMoved_bay, (limitMoved_ps r s).1]
    rw [Drawn, limitMoved_bay, e]
    exact h

/-- A recomputation of one rail leaves every other rail, and the bays on it. -/
theorem recomputeLimit_ne {q : RailNo} (hq : r ≠ q) (s : State) :
    (recomputeLimit q s).rail r = s.rail r ∧ ∀ b, railOf s b = r → (recomputeLimit q s).bay b = s.bay b := by
  rw [recomputeLimit_eq]
  split
  · exact ⟨rfl, fun _ _ => rfl⟩
  · obtain ⟨p, e, h⟩ := limitMoved_publishes q s
    have k := examineRail_examines q (limitMoved q s)
    refine ⟨?_, fun b hb => ?_⟩
    · rw [(publishes_publishRail _ _).rail, k.rail_ne r hq, h.rail, State.rail_setRail_ne s (Ne.symm hq)]
    · rw [(publishes_publishRail _ _).bay]
      rcases k.bay b with e | ⟨e, -, -⟩
      · rw [e, limitMoved_bay]
      · rw [railOf_eq (show (limitMoved q s).dl = s.dl from h.dl), hb] at e
        exact absurd e hq

/-! ### The supply state (R28, R29) -/

/-- Work done for each element of a list, seen from one of them: what holds before its turn, and what its turn brings and the others
keep. -/
theorem forEach_at {α : Type} {l : List α} (nodup : l.Nodup) {k : α} (hk : k ∈ l) {f : α → State → State} {P Q : State → Prop}
    (before : ∀ q, q ≠ k → ∀ u, P u → P (f q u)) (turn : ∀ u, P u → Q (f k u)) (after : ∀ q, q ≠ k → ∀ u, Q u → Q (f q u))
    (s : State) (hs : P s) : Q (forEach l f s) := by
  obtain ⟨l, m, rfl⟩ := List.append_of_mem hk
  rw [List.nodup_append, List.nodup_cons] at nodup
  rw [forEach_append]
  have first : P (forEach l f s) :=
    forEach_keeps l (fun q hq u hu => before q (fun e => nodup.2.2 q hq k (by simp) e) u hu) s hs
  exact forEach_keeps m (fun q hq u hu => after q (fun e => nodup.2.1.1 (e ▸ hq)) u hu) _ (turn _ first)

/-- The same for work done for each rail, zone or drawer. -/
theorem forFour_at (k : Fin 4) {f : Fin 4 → State → State} {P Q : State → Prop} (before : ∀ q, q ≠ k → ∀ u, P u → P (f q u))
    (turn : ∀ u, P u → Q (f k u)) (after : ∀ q, q ≠ k → ∀ u, Q u → Q (f q u)) (s : State) (hs : P s) : Q (forFour f s) :=
  forEach_at (List.nodup_finRange 4) (List.mem_finRange k) before turn after s hs

/-- The part of a change of the supply state before the admission limits (R29). -/
def supplyMoved (v : SupplyState) (s : State) : State :=
  noticeBoth noticePower
    (rewriteLive
      (logEvent (eventSupplyChanged s.ps.supply v s.ps.lines[0].level s.ps.lines[1].level)
        { s with ps := { s.ps with supply := v } }))

theorem changeSupply_eq (v : SupplyState) (s : State) : changeSupply v s = forFour recomputeLimit (supplyMoved v s) := rfl

theorem supplyMoved_publishes (v : SupplyState) (s : State) :
    Publishes { s with ps := { s.ps with supply := v } } (supplyMoved v s) :=
  ((publishes_logEvent _ _).trans (publishes_rewriteLive _)).trans (publishes_noticeBoth _ noticePower_legal _)

theorem supply_same (s : State) (v : SupplyState) : Same s { s with ps := { s.ps with supply := v } } :=
  ⟨⟨⟨rfl, rfl, rfl, rfl, rfl, rfl, fun _ => rfl⟩, fun _ => rfl⟩, fun _ => rfl, fun _ => rfl⟩

theorem setLine_same (n : SupplyNo) (v : Line) (s : State) : Same s (setLine n v s) :=
  ⟨⟨⟨rfl, rfl, rfl, rfl, rfl, rfl, fun _ => rfl⟩, fun _ => rfl⟩, fun _ => rfl, fun _ => rfl⟩

theorem supplyMoved_same (v : SupplyState) (s : State) : Same s (supplyMoved v s) :=
  (supply_same s v).publish (supplyMoved_publishes v s)

theorem changeSupply_steady (v : SupplyState) (s : State) : Steady s (changeSupply v s) :=
  (supplyMoved_same v s).calm.toSteady.trans
    (forEach_relates _ (fun u => (Calm.refl u).toSteady) Steady.trans (fun q _ u => recomputeLimit_steady q u) _)

/-- After one change of the supply state the bays it made spin up are fit: their own rail's turn admitted them, and the turns of the
other rails leave that rail and its bays. -/
theorem changeSupply_settles (v : SupplyState) (s : State) : Settles s (changeSupply v s) := by
  intro b hb
  have h0 := supplyMoved_same v s
  rw [changeSupply_eq]
  refine forFour_at (railOf s b) (P := fun u => (u.bay b).state.held ≠ some .spinup ∧ u.dl = s.dl)
    (Q := fun u => Fit u b ∧ u.dl = s.dl) ?before ?turn ?after _ ⟨by rw [h0.held]; exact hb, h0.dl⟩ |>.1
  case before =>
    rintro q hq u ⟨hu, hd⟩
    exact ⟨by rw [(recomputeLimit_ne (Ne.symm hq) u).2 b (railOf_eq hd b)]; exact hu,
      (recomputeLimit_steady q u).dl.trans hd⟩
  case turn =>
    rintro u ⟨hu, hd⟩
    exact ⟨recomputeLimit_settles _ u b hu, (recomputeLimit_steady _ u).dl.trans hd⟩
  case after =>
    rintro q hq u ⟨hu, hd⟩
    have hs := recomputeLimit_steady q u
    obtain ⟨hrail, hbays⟩ := recomputeLimit_ne (Ne.symm hq) u
    have hbay := hbays b (railOf_eq hd b)
    refine ⟨?_, hs.dl.trans hd⟩
    have e : profileOf (recomputeLimit q u) b = profileOf u b := by
      simp [profileOf, State.profile, (recomputeLimit_ps q u).1, hbay]
    rw [← railOf_eq hd b] at hrail
    rw [Fit, Drawn, Roomy, hbay, e, railOf_eq hs.dl, hrail, committed, hrail, railDesc_eq hs.dl]
    exact hu

theorem changeLine_steady (n : SupplyNo) (s : State) : Steady s (changeLine n s) := by
  unfold changeLine
  dsimp only
  split
  · exact (setLine_same n _ s).calm.toSteady.trans (changeSupply_steady _ _)
  · exact (setLine_same n _ s).calm.toSteady

theorem changeLine_settles (n : SupplyNo) (s : State) : Settles s (changeLine n s) := by
  unfold changeLine
  dsimp only
  split
  · exact fun b hb => changeSupply_settles _ _ b hb
  · exact (setLine_same n _ s).calm.settles

theorem changeSupply_drawn (v : SupplyState) (s : State) {b : BayNo} (h : Drawn s b) : Drawn (changeSupply v s) b :=
  forEach_keeps _ (fun q _ u hu => recomputeLimit_drawn q u hu) _ ((supplyMoved_same v s).drawn h)

theorem changeSupply_lines (v : SupplyState) (s : State) : (changeSupply v s).ps.lines = s.ps.lines := by
  have h : (supplyMoved v s).ps.lines = s.ps.lines := by rw [(supplyMoved_publishes v s).ps]
  rw [changeSupply_eq, ← h]
  exact forEach_keeps (P := fun u => u.ps.lines = (supplyMoved v s).ps.lines) _
    (fun q _ u hu => (recomputeLimit_ps q u).2.1.trans hu) _ rfl

theorem changeLine_drawn (n : SupplyNo) (s : State) {b : BayNo} (h : Drawn s b) : Drawn (changeLine n s) b := by
  unfold changeLine
  dsimp only
  split
  · exact changeSupply_drawn _ _ ((setLine_same n _ s).drawn h)
  · exact (setLine_same n _ s).drawn h

/-- A line's debounce end changes the level of that line alone (R28). -/
theorem changeLine_lines (n : SupplyNo) (s : State) :
    (changeLine n s).ps.lines = s.ps.lines.set n { level := !s.ps.lines[n].level, debounce := none } := by
  unfold changeLine
  dsimp only
  split
  · exact changeSupply_lines _ _
  · rfl

theorem level_setLine (n m : SupplyNo) (v : Line) (s : State) :
    (setLine n v s).ps.lines[m] = if n = m then v else s.ps.lines[m] := by
  simp [setLine, Vector.getElem_set, Fin.ext_iff]

/-- A sample of a supply-good line either moves its debounce alone, or is the end of its debounce (R28). -/
theorem sampleSupply_cases (g : BitVec 2) (n : SupplyNo) (s : State) :
    (Same s (sampleSupply g n s) ∧ ∀ m : SupplyNo, (sampleSupply g n s).ps.lines[m].level = s.ps.lines[m].level) ∨
      sampleSupply g n s = changeLine n s := by
  have debounce : ∀ v : Line, v.level = s.ps.lines[n].level →
      Same s (setLine n v s) ∧ ∀ m : SupplyNo, (setLine n v s).ps.lines[m].level = s.ps.lines[m].level := by
    refine fun v hv => ⟨setLine_same n v s, fun m => ?_⟩
    rw [level_setLine]
    split
    · rename_i h; subst h; exact hv
    · rfl
  unfold sampleSupply
  dsimp only
  split
  · exact .inl (debounce _ rfl)
  · split
    · exact .inl (debounce _ rfl)
    · split
      · exact .inr rfl
      · exact .inl ⟨.refl s, fun _ => rfl⟩

theorem sampleSupply_steady (g : BitVec 2) (n : SupplyNo) (s : State) : Steady s (sampleSupply g n s) := by
  rcases sampleSupply_cases g n s with ⟨h, -⟩ | e
  · exact h.calm.toSteady
  · rw [e]; exact changeLine_steady n s

theorem sampleSupply_drawn (g : BitVec 2) (n : SupplyNo) (s : State) {b : BayNo} (h : Drawn s b) :
    Drawn (sampleSupply g n s) b := by
  rcases sampleSupply_cases g n s with ⟨k, -⟩ | e
  · exact k.drawn h
  · rw [e]; exact changeLine_drawn n s h

theorem sampleSupply_settles (g : BitVec 2) (n : SupplyNo) (s : State) : Settles s (sampleSupply g n s) := by
  rcases sampleSupply_cases g n s with ⟨k, -⟩ | e
  · exact k.calm.settles
  · rw [e]; exact changeLine_settles n s

/-- A sample after which a line's level stands as it did leaves the power side alone, if it is the sample of that line. -/
theorem sampleSupply_same {g : BitVec 2} {n : SupplyNo} {s : State}
    (h : (sampleSupply g n s).ps.lines[n].level = s.ps.lines[n].level) : Same s (sampleSupply g n s) := by
  rcases sampleSupply_cases g n s with ⟨k, -⟩ | e
  · exact k
  · rw [e, changeLine_lines] at h
    simp at h

theorem sampleSupply_level_ne {g : BitVec 2} {n m : SupplyNo} (hm : n ≠ m) (s : State) :
    (sampleSupply g n s).ps.lines[m].level = s.ps.lines[m].level := by
  rcases sampleSupply_cases g n s with ⟨-, k⟩ | e
  · exact k m
  · rw [e, changeLine_lines]
    simp [Fin.ext_iff.not.mp hm]

/-- A sample of both lines, one after the other. -/
theorem supplySample_eq (g : BitVec 2) (s : State) :
    forEach (List.finRange 2) (sampleSupply g) s = sampleSupply g 1 (sampleSupply g 0 s) := rfl

/-- After a sample of both lines at which one of them kept its level, the bays it made spin up are fit: it was at most one change of the
supply state. -/
theorem supplySample_settles {g : BitVec 2} {s : State}
    (h : ∃ n : SupplyNo, (sampleSupply g 1 (sampleSupply g 0 s)).ps.lines[n].level = s.ps.lines[n].level) :
    Settles s (sampleSupply g 1 (sampleSupply g 0 s)) := by
  obtain ⟨n, hn⟩ := h
  match n, hn with
  | 0, hn =>
    rw [sampleSupply_level_ne (by decide)] at hn
    have k := sampleSupply_same hn
    exact fun b hb => sampleSupply_settles g 1 _ b (by rwa [k.held])
  | 1, hn =>
    have k : Same (sampleSupply g 0 s) (sampleSupply g 1 (sampleSupply g 0 s)) :=
      sampleSupply_same (hn.trans (sampleSupply_level_ne (by decide) s).symm)
    exact fun b hb => k.fit (sampleSupply_settles g 0 s b hb)

end

end Sys2Proof.Machine
end

section
/-! SUPPORT. The bay controller's changes of a bay by what they keep: insertion, presence, faults and timers (chapters 1 and 3). -/

namespace Sys2Proof.Machine

section
variable {s t u : State} {b : BayNo}

/-! ### Reading a bay and the power sequencer past records and events -/

@[simp] theorem publishBay_bay (c k : BayNo) (s : State) : (publishBay c s).bay k = s.bay k := (publishes_publishBay c s).bay k
@[simp] theorem publishBay_ps (c : BayNo) (s : State) : (publishBay c s).ps = s.ps := (publishes_publishBay c s).ps
@[simp] theorem publishBay_dl (c : BayNo) (s : State) : (publishBay c s).dl = s.dl := (publishes_publishBay c s).dl
@[simp] theorem publishBay_charge (c k : BayNo) (s : State) : (publishBay c s).charge k = s.charge k :=
  (publishes_publishBay c s).charge k
@[simp] theorem logEvent_bay (e : Event) (k : BayNo) (s : State) : (logEvent e s).bay k = s.bay k := (publishes_logEvent e s).bay k
@[simp] theorem logEvent_ps (e : Event) (s : State) : (logEvent e s).ps = s.ps := (publishes_logEvent e s).ps
@[simp] theorem logEvent_dl (e : Event) (s : State) : (logEvent e s).dl = s.dl := (publishes_logEvent e s).dl
@[simp] theorem logEvent_charge (e : Event) (k : BayNo) (s : State) : (logEvent e s).charge k = s.charge k :=
  (publishes_logEvent e s).charge k
@[simp] theorem rewriteQueue_bay (k : BayNo) (s : State) : (rewriteQueue s).bay k = s.bay k := (publishes_rewriteQueue s).bay k
@[simp] theorem rewriteQueue_ps (s : State) : (rewriteQueue s).ps = s.ps := (publishes_rewriteQueue s).ps
@[simp] theorem rewriteQueue_charge (k : BayNo) (s : State) : (rewriteQueue s).charge k = s.charge k :=
  (publishes_rewriteQueue s).charge k

@[simp] theorem moveBay_ps (c : BayNo) (v : BayState) (s : State) : (moveBay c v s).ps = s.ps := rfl
@[simp] theorem moveBay_charge (c k : BayNo) (v : BayState) (s : State) : (moveBay c v s).charge k = s.charge k := rfl
@[simp] theorem moveBay_bay_same (c : BayNo) (v : BayState) (s : State) :
    (moveBay c v s).bay c =
      { s.bay c with
        state := v, changed := if v.code = (s.bay c).state.code then (s.bay c).changed else s.uptime } := by
  simp [moveBay]

@[simp] theorem handCharge_bay (c k : BayNo) (v : Nat) (s : State) : (handCharge c v s).bay k = s.bay k := by
  unfold handCharge
  split
  · rfl
  · rw [(publishes_publishRail _ _).bay, (evaluateOverLimit_cases _ _).bay]; rfl
@[simp] theorem handCharge_queue (c : BayNo) (v : Nat) (s : State) : (handCharge c v s).ps.queue = s.ps.queue := by
  unfold handCharge
  split
  · rfl
  · rw [publishRail_ps, (evaluateOverLimit_cases _ _).ps]; rfl

@[simp] theorem powerDown_bay_same (c : BayNo) (h : Seated) (o : OffCause) (s : State) :
    (powerDown c h o s).bay c = { s.bay c with switch := false, surgeEnd := none, activeSince := none } := by
  simp [powerDown]
@[simp] theorem powerDown_queue (c : BayNo) (h : Seated) (o : OffCause) (s : State) : (powerDown c h o s).ps.queue = s.ps.queue := by
  simp [powerDown]
@[simp] theorem powerDown_charge_same (c : BayNo) (h : Seated) (o : OffCause) (s : State) : (powerDown c h o s).charge c = 0 := by
  simp [powerDown, handCharge_charge]

@[simp] theorem leaveQueue_bay (c k : BayNo) (s : State) : (leaveQueue c s).bay k = s.bay k := by simp [leaveQueue]
@[simp] theorem leaveQueue_charge (c k : BayNo) (s : State) : (leaveQueue c s).charge k = s.charge k := by simp [leaveQueue]
@[simp] theorem leaveQueue_queue (c : BayNo) (s : State) : (leaveQueue c s).ps.queue = withoutBay c s.ps.queue := by
  simp [leaveQueue]

/-! ### Finishing orders -/

theorem Same.finishSlot (h : Same s t) (x : Port) (n : SlotNo) (o : Answer) : Same s (finishSlot x n o t) := by
  have k : Same s (dropContext x n ((t.store (slotBase x n + 24) o.bytes).store (slotBase x n) [slotDone])) :=
    h.keep rfl rfl rfl rfl rfl rfl
  exact k.publish (publishes_noticePort _ _ (slotBit_legal n) _)

theorem Same.finishLingering (h : Same s t) (x : Port) (n : SlotNo) (o : Answer) : Same s (finishLingering x n o t) := by
  unfold Machine.finishLingering
  split
  · exact h.finishSlot x n o
  · exact h

theorem Same.finishLink (h : Same s t) (b : BayNo) (r : Result) : Same s (finishLink b r t) := by
  unfold Machine.finishLink
  split
  · exact (h.finishLingering _ _ _).setBay rfl
  · exact h

theorem Same.releaseLink (h : Same s t) (x : Port) (n : SlotNo) (b : BayNo) : Same s (releaseLink x n b t) := by
  have k : Same s (t.setBay b { t.bay b with link := none }) := h.setBay rfl
  unfold Machine.releaseLink
  split
  · exact k.publish (publishes_publishBay b _)
  · exact h

theorem Same.endLingering (h : Same s t) (c : Context) (r : Result) : Same s (endLingering c r t) :=
  (h.finishSlot _ _ _).releaseLink _ _ _

/-- Finishing a bay's link changes no power state. -/
theorem finishLink_same (b : BayNo) (r : Result) (s : State) : Same s (finishLink b r s) := (Same.refl s).finishLink b r

/-! ### Closing a change of one bay -/

/-- A change of one bay that was not QUEUED and leaves it out of the queue and without a charge, in a state that calls for none, is
calm. -/
theorem Beside.calm_of_off (h : Beside b True s t) (hs : (s.bay b).state.held ≠ some .queued)
    (hq : t.ps.queue = s.ps.queue) (h1 : (t.bay b).state.held ≠ some .queued) (h2 : (t.bay b).state.held ≠ some .spinup)
    (h3 : (t.bay b).state.held ≠ some .active) (hc : Due s b → t.charge b = 0) : Calm s t :=
  h.calm_of_rest h2 (placed_of_out hs h1 hq) fun hd => (hc hd).trans (chargeDue_zero h2 h3).symm

theorem Due.charge_zero (h : Due s b) (h2 : (s.bay b).state.held ≠ some .spinup) (h3 : (s.bay b).state.held ≠ some .active) :
    s.charge b = 0 := Eq.trans h (chargeDue_zero h2 h3)

/-! ### Presence, insertion and removal (R8 to R12) -/

theorem insertBay_calm (hs : (s.bay b).state = .arriving) : Calm s (insertBay b s) := by
  have hout : (s.bay b).state.held ≠ some .queued := by simp [hs, BayState.held]
  have zero : Due s b → s.charge b = 0 := fun h => h.charge_zero (by simp [hs, BayState.held]) (by simp [hs, BayState.held])
  have seated : Beside b True s
      (publishBay b (logEvent
        (eventInserted b ((moveBay b (.seated .idle) (s.setBay b { s.bay b with debounce := none })).bay b).policy
          ((moveBay b (.seated .idle) (s.setBay b { s.bay b with debounce := none })).bayDesc b).drawer)
        (moveBay b (.seated .idle) (s.setBay b { s.bay b with debounce := none })))) :=
    ((((Beside.refl b True s).setBay _).moveBay _).publish (publishes_logEvent _ _)).publish (publishes_publishBay _ _)
  unfold insertBay
  dsimp only
  split
  case h_1 =>
    refine (((seated.setBay _).moveBay _).publish (publishes_publishBay _ _)).joinQueue hout ?held ?queue ?charge
    case held => simp [BayState.held]
    case queue => simp
    case charge => simpa using zero
  case h_2 =>
    refine seated.calm_of_off hout ?queue ?_ ?_ ?_ ?charge
    case queue => simp
    case charge => simpa using zero
    all_goals simp [BayState.held]

theorem removeBay_calm {h : Seated} (hs : (s.bay b).state = .leaving h) : Calm s (removeBay b h s) := by
  have held : (s.bay b).state.held = some h := by rw [hs]; rfl
  have off : ∃ t, t = (if h.powered then powerDown b h .removal s else s) ∧ Beside b True s t ∧ t.ps.queue = s.ps.queue ∧
      (Due s b → t.charge b = 0) := by
    refine ⟨_, rfl, ?_⟩
    split
    case isTrue => exact ⟨(Beside.refl b True s).powerDown h _, by simp, fun _ => by simp⟩
    case isFalse hp =>
      refine ⟨.refl b True s, rfl, fun hd => hd.charge_zero ?_ ?_⟩ <;>
        (rw [held]; rintro ⟨⟩; exact hp rfl)
  obtain ⟨t, et, ht, hqueue, hcharge⟩ := off
  have out : ∃ u, u = (if h = .queued then leaveQueue b t else t) ∧ Beside b True s u ∧
      (Placed s b → entriesOf b u.ps.queue = []) ∧ u.charge b = t.charge b := by
    refine ⟨_, rfl, ?_⟩
    split
    case isTrue => exact ⟨ht.leaveQueue, fun _ => by rw [leaveQueue_queue, entriesOf_withoutBay, if_pos rfl], by simp⟩
    case isFalse hq =>
      exact ⟨ht, fun hp => by rw [hqueue]; exact entriesOf_nil_of_placed hp (by rw [held]; simpa using hq), rfl⟩
  obtain ⟨u, eu, hu, hentries, hucharge⟩ := out
  unfold removeBay
  dsimp only
  rw [← et, ← eu]
  have k := finishLink_same b .abortedRemoved (u.setBay b
    { u.bay b with
      surgeEnd := none, coolOffEnd := none, activeSince := none, retries := 0, priority := (u.bayDesc b).priority })
  refine Calm.trans ?_ (examineIf_calm _ b _)
  refine ((((((hu.setBay _).finishLink .abortedRemoved).setBay _).moveBay .absent).publish (publishes_logEvent _ _)).publish
    (publishes_publishBay b _)).calm_of_rest ?rest (fun hp => ?placed) fun hd => ?due
  case rest => simp [BayState.held]
  case placed =>
    rw [Placed, if_neg (by simp [BayState.held]), publishBay_ps, logEvent_ps, moveBay_ps, State.setBay_ps, k.queue]
    exact hentries hp
  case due =>
    rw [Due, publishBay_charge, logEvent_charge, moveBay_charge, State.charge_setBay, k.charge, State.charge_setBay, hucharge,
      hcharge hd, chargeDue_zero] <;> simp [BayState.held]

/-- A bay put into a state of the same held state, with other fields that no rule of power reads. -/
theorem moveBay_same {v : Bay} {w : BayState} (hv : v.power = (s.bay b).power) (hw : w.held = (s.bay b).state.held) :
    Same s (moveBay b w (s.setBay b v)) := by
  have k : Same s (s.setBay b v) := (Same.refl s).setBay hv
  refine k.setBay ?_
  have e : v.state.held = (s.bay b).state.held := congrArg BayPower.held hv
  simp [Bay.power, hw, e]

theorem losePresence_calm {h : Seated} (hs : (s.bay b).state = .seated h) : Calm s (losePresence b h s) :=
  ((moveBay_same (by rfl) (by rw [hs]; rfl)).publish (publishes_publishBay b _)).calm.trans (examineIf_calm _ b _)

theorem regainPresence_calm {h : Seated} (hs : (s.bay b).state = .leaving h) : Calm s (regainPresence b h s) := by
  have back : Same s (logEvent (eventGlitch b (.seated h)) (moveBay b (.seated h) (s.setBay b { s.bay b with debounce := none }))) :=
    (moveBay_same (by rfl) (by rw [hs]; rfl)).publish (publishes_logEvent _ _)
  unfold regainPresence
  dsimp only
  refine (Same.publish ?_ (publishes_publishBay b _)).calm.trans (examineIf_calm _ b _)
  split
  · exact back.finishLink b _
  · exact back

theorem applyPresence_calm (b : BayNo) (p : Bool) (s : State) : Calm s (applyPresence b p s) := by
  unfold applyPresence
  split
  case h_1 => exact .refl s
  case h_2 hs =>
    split
    · exact ((moveBay_same (by rfl) (by rw [hs]; rfl)).publish (publishes_publishBay b _)).calm
    · exact .refl s
  case h_3 hs =>
    split
    · split
      · exact insertBay_calm hs
      · exact .refl s
    · exact (((moveBay_same (by rfl) (by rw [hs]; rfl)).publish (publishes_logEvent _ _)).publish (publishes_publishBay b _)).calm
  case h_4 hs =>
    split
    · exact .refl s
    · exact losePresence_calm hs
  case h_5 hs =>
    split
    · exact regainPresence_calm hs
    · split
      · exact removeBay_calm hs
      · exact .refl s

/-! ### Faults (R54 to R60) -/

theorem faultPowered_calm {h : Seated} (hs : (s.bay b).state = .seated h) (hp : h.powered = true) : Calm s (faultPowered b h s) := by
  have hout : (s.bay b).state.held ≠ some .queued := by rw [hs]; rintro ⟨⟩; simp [Seated.powered] at hp
  have off : Beside b True s (powerDown b h .fault s) := (Beside.refl b True s).powerDown h _
  unfold faultPowered
  dsimp only
  refine Calm.trans ?_ (examineIf_calm _ b _)
  refine Calm.publish ?_ (publishes_publishBay b _)
  split
  case isTrue =>
    refine ((((off.setBay _).setBay _).moveBay _).publish (publishes_logEvent _ _)).calm_of_off hout ?queue ?_ ?_ ?_ fun _ => ?charge
    case queue => simp
    case charge => simp
    all_goals simp [BayState.held]
  case isFalse =>
    have k := fun w : State => finishLink_same b .abortedFault w
    refine (((off.setBay _).moveBay _).publish (publishes_logEvent _ _)).calm_of_off hout ?queue ?_ ?_ ?_ (fun _ => ?charge)
      |>.same (k _)
    case queue => simp
    case charge => simp
    all_goals simp [BayState.held]

theorem faultLeaving_calm {h : Seated} (hs : (s.bay b).state = .leaving h) (hp : h.powered = true) : Calm s (faultLeaving b h s) := by
  have hout : (s.bay b).state.held ≠ some .queued := by rw [hs]; rintro ⟨⟩; simp [Seated.powered] at hp
  have off : Beside b True s (powerDown b h .fault s) := (Beside.refl b True s).powerDown h _
  unfold faultLeaving
  dsimp only
  refine Calm.trans ?_ (examineIf_calm _ b _)
  refine (((off.moveBay _).publish (publishes_logEvent _ _)).publish (publishes_publishBay b _)).calm_of_off hout ?queue ?_ ?_ ?_
    fun _ => ?charge
  case queue => simp
  case charge => simp
  all_goals simp [BayState.held]

theorem applyFault_calm (b : BayNo) (f : Bool) (s : State) : Calm s (applyFault b f s) := by
  unfold applyFault
  split
  · split
    case h_4 hs =>
      split
      · rename_i hp; exact faultPowered_calm hs hp
      · exact .refl s
    case h_5 hs =>
      split
      · rename_i hp; exact faultLeaving_calm hs hp
      · exact .refl s
    all_goals exact .refl s
  · exact .refl s

theorem sampleBay_calm (f : ScanFrame) (b : BayNo) (s : State) : Calm s (sampleBay f b s) :=
  (applyPresence_calm b _ s).trans (applyFault_calm b _ _)

theorem enables_same (s : State) (v : Vector Bool 96) (c : ChainLines) :
    Same s { s with bc := { s.bc with enables := v, chain := c } } :=
  ⟨⟨⟨rfl, rfl, rfl, rfl, rfl, rfl, fun _ => rfl⟩, fun _ => rfl⟩, fun _ => rfl, fun _ => rfl⟩

theorem driveEnables_same (s : State) : Same s (driveEnables s) := enables_same s (heldEnables s) ChainLines.low

theorem bayScan_calm (f : ScanFrame) (s : State) : Calm s (forBays (sampleBay f) (driveEnables s)) :=
  (driveEnables_same s).calm.forEach _ fun b u => sampleBay_calm f b u

/-! ### Timers (R13, R44, R59) -/

theorem withHeld_held {v : BayState} {h g : Seated} (hv : v.held = some h) : (v.withHeld g).held = some g := by
  cases v <;> simp_all [BayState.held, BayState.withHeld]

theorem endSurge_keeps (hs : (s.bay b).state.held = some .spinup) : Steady s (endSurge b s) ∧ Settles s (endSurge b s) := by
  have ended : ∃ t, Beside b False s t ∧ (t.bay b).state.held = some .active ∧ t.ps.queue = s.ps.queue ∧
      t.charge b = (t.bay b).admittedRunning ∧
      Calm t (endSurge b s) := by
    refine ⟨handCharge b (s.bay b).admittedRunning
      (moveHeld b .active (s.setBay b { s.bay b with surgeEnd := none, activeSince := some s.uptime })), ?_, ?_, ?_, ?_, ?_⟩
    · exact (((Beside.refl b False s).setBay _).moveHeld _).handCharge False.elim
    · simp [moveHeld, withHeld_held hs]
    · simp [moveHeld]
    · simp [moveHeld, handCharge_charge]
    · unfold endSurge
      dsimp only
      have e : ((moveHeld b .active (s.setBay b { s.bay b with surgeEnd := none, activeSince := some s.uptime })).bay b).admittedRunning =
          (s.bay b).admittedRunning := by simp [moveHeld]
      rw [e]
      refine Calm.trans (Calm.publish ?_ (publishes_publishBay b _)) (examineIf_calm _ b _)
      split
      · exact (publishes_logEvent _ _).still.calm
      · exact ((publishes_logEvent _ _).still.finishLink b _).calm
  obtain ⟨t, k, hheld, hqueue, hcharge, hcalm⟩ := ended
  have steady : Steady s t := by
    refine k.steady_of_rest (by simp [hheld]) (placed_of_out (by simp [hs]) (by simp [hheld]) hqueue) fun _ => ?_
    rw [Due, hcharge, chargeDue, hheld]
  refine ⟨steady.trans hcalm.toSteady, Settles.of_prior (fun c hc => ?_) hcalm⟩
  by_cases hcb : c = b
  · subst hcb; simp [hheld]
  · rwa [k.bay c hcb]

theorem endCoolOff_calm (hs : (s.bay b).state.held = some .cooloff) : Calm s (endCoolOff b s) := by
  refine ((((Beside.refl b True s).setBay _).moveHeld .queued).publish (publishes_publishBay b _)).joinQueue (by simp [hs]) ?held
    ?queue ?charge
  case held => simp [moveHeld, withHeld_held hs]
  case queue => simp [moveHeld]
  case charge => exact fun hd => by simpa [moveHeld] using hd.charge_zero (by simp [hs]) (by simp [hs])

end

end Sys2Proof.Machine
end

section
/-! SUPPORT. The commands of the other blocks by what they keep: drawers and temperature, whose changes come before the examinations they
call for, and the fans, the indicators and the ports, which leave the power side alone (chapters 1, 4 to 9). -/

namespace Sys2Proof.Machine

section
variable {s t u : State} {b : BayNo}

/-! ### A change of some drawers and zones, and the examinations it calls for -/

/-- A change that leaves the power side, the drawers outside D and the critical flags outside Z. -/
structure Retunes (D : DrawerNo → Prop) (Z : ZoneNo → Prop) (s t : State) : Prop extends Idle s t where
  drawer : ∀ d, ¬ D d → (t.drawer d).state = (s.drawer d).state
  critical : ∀ z, ¬ Z z → (t.sense z).critical = (s.sense z).critical

/-- Such a change, and then calm work: the examinations that the change calls for (R24, R81). -/
def Work (D : DrawerNo → Prop) (Z : ZoneNo → Prop) (s t : State) : Prop := ∃ u, Retunes D Z s u ∧ Calm u t

variable {D : DrawerNo → Prop} {Z : ZoneNo → Prop}

theorem Same.retunes (h : Same s t) : Retunes D Z s t := ⟨h.toIdle, fun d _ => h.drawer d, fun z _ => h.critical z⟩

theorem Retunes.trans (h : Retunes D Z s t) (k : Retunes D Z t u) : Retunes D Z s u :=
  ⟨h.toIdle.trans k.toIdle, fun d hd => (k.drawer d hd).trans (h.drawer d hd),
    fun z hz => (k.critical z hz).trans (h.critical z hz)⟩

theorem Retunes.publish (h : Retunes D Z s t) (k : Publishes t u) : Retunes D Z s u := h.trans k.still.retunes

theorem Retunes.work (h : Retunes D Z s t) : Work D Z s t := ⟨t, h, .refl t⟩
theorem Calm.work (h : Calm s t) : Work D Z s t := ⟨s, (Same.refl s).retunes, h⟩
theorem Work.of_prior (h : Retunes D Z s t) (k : Work D Z t u) : Work D Z s u := by
  obtain ⟨v, hv, kv⟩ := k
  exact ⟨v, h.trans hv, kv⟩

theorem Work.keeps (h : Work D Z s t) : Keeps s t := by
  obtain ⟨u, hu, k⟩ := h
  exact hu.toIdle.keeps.trans k.toKeeps

theorem Work.fit (h : Work D Z s t) (hb : Fit s b) : Fit t b := by
  obtain ⟨u, hu, k⟩ := h
  exact k.fit (hu.fit hb)

theorem Work.drawer (h : Work D Z s t) {d : DrawerNo} (hd : ¬ D d) : (t.drawer d).state = (s.drawer d).state := by
  obtain ⟨u, hu, k⟩ := h
  exact (k.drawer d).trans (hu.drawer d hd)

theorem Work.critical (h : Work D Z s t) {z : ZoneNo} (hz : ¬ Z z) : (t.sense z).critical = (s.sense z).critical := by
  obtain ⟨u, hu, k⟩ := h
  exact (k.critical z).trans (hu.critical z hz)

/-- A bay that the work makes spin up is home after it. -/
theorem Work.home (h : Work D Z s t) (hb : (s.bay b).state.held ≠ some .spinup) : Home t b := by
  obtain ⟨u, hu, k⟩ := h
  exact k.home b fun e => absurd (by rwa [hu.held] at e) hb

/-! ### The drawers (R22 to R24) -/

theorem setDrawer_retunes (d : DrawerNo) (v : Drawer) (s : State) : Retunes (· = d) Z s (s.setDrawer d v) :=
  ⟨⟨⟨rfl, rfl, rfl, rfl, rfl, rfl, fun _ => rfl⟩, fun _ => rfl⟩,
    fun k hk => by rw [State.drawer_setDrawer_ne s (Ne.symm hk)], fun _ _ => rfl⟩

theorem moveDrawer_retunes (d : DrawerNo) (v : DrawerState) (e : Option Uptime) (s : State) :
    Retunes (· = d) Z s (moveDrawer d v e s) := (setDrawer_retunes d _ s).publish (publishes_rewriteDrawer d _)

theorem closeDrawer_work (d : DrawerNo) (s : State) : Work (· = d) Z s (closeDrawer d s) :=
  ⟨_, (moveDrawer_retunes d _ _ s).publish (publishes_logEvent _ _), examineRailsOf_calm _ _⟩

theorem openDrawer_work (d : DrawerNo) (s : State) : Work (· = d) Z s (openDrawer d s) :=
  ⟨_, (moveDrawer_retunes d _ _ s).publish (publishes_logEvent _ _), examineRailsOf_calm _ _⟩

theorem settleDrawer_work (d : DrawerNo) (s : State) : Work (· = d) Z s (settleDrawer d s) := by
  unfold settleDrawer
  dsimp only
  split
  · exact (closeDrawer_work d _).of_prior (moveDrawer_retunes d _ _ s)
  · exact (moveDrawer_retunes d _ _ s).work

theorem changeDrawerLine_work (d : DrawerNo) (s : State) : Work (· = d) Z s (changeDrawerLine d s) := by
  have line := setDrawer_retunes (Z := Z) d { s.drawer d with line := { level := !(s.drawer d).line.level, debounce := none } } s
  unfold changeDrawerLine
  dsimp only
  split
  · exact (openDrawer_work d _).of_prior line
  · exact (settleDrawer_work d _).of_prior line
  · exact (line.trans (moveDrawer_retunes d _ _ _)).work
  all_goals exact line.work

theorem sampleDrawer_work (c : BitVec 4) (d : DrawerNo) (s : State) : Work (· = d) Z s (sampleDrawer c d s) := by
  unfold sampleDrawer
  dsimp only
  split
  · exact (setDrawer_retunes d _ s).work
  · split
    · exact (setDrawer_retunes d _ s).work
    · split
      · exact changeDrawerLine_work d s
      · exact (Calm.refl s).work

/-! ### The temperature unit (R67 to R81) -/

theorem reports_same (s : State) (v w : Vector ReportSample 96) :
    Same s { s with tu := { s.tu with reportsA := v, reportsB := w } } := (Same.refl s).keep rfl rfl rfl rfl rfl rfl

theorem sampleReports_same (s : State) : Same s (sampleReports s) := reports_same s _ _

theorem handDriveTemp_same (b : BayNo) (s : State) : Same s (handDriveTemp b s) := by
  have k : ∀ v, Same s (s.setBay b { s.bay b with driveTemp := v }) := fun v => (Same.refl s).setBay (by rfl)
  unfold handDriveTemp
  split
  · exact .refl s
  · exact (k _).publish (publishes_publishBay b _)

theorem handSense_same (z : ZoneNo) (s : State) : Same s (handSense z s) := by
  have k : ∀ v, Same s (s.setZone z v) := fun v => (Same.refl s).keep rfl rfl rfl rfl rfl rfl
  unfold handSense
  split
  · exact .refl s
  · exact (k _).publish (publishes_publishZone z _)

theorem setSense_retunes (z : ZoneNo) (v : ZoneSense) (s : State) : Retunes D (· = z) s (s.setSense z v) :=
  ⟨⟨⟨rfl, rfl, rfl, rfl, rfl, rfl, fun _ => rfl⟩, fun _ => rfl⟩, fun _ _ => rfl,
    fun k hk => by rw [State.sense_setSense_ne s (Ne.symm hk)]⟩

theorem endRoundZone_work (z : ZoneNo) (s : State) : Work D (· = z) s (endRoundZone z s) := by
  unfold endRoundZone
  dsimp only
  have sensed := ((setSense_retunes (D := D) z (senseAfter s z) s).publish
    (publishes_logEvents (sightEvents z (s.sense z) (senseAfter s z) ++
      flagEvents z ((s.setSense z (senseAfter s z)).zoneDesc z) (s.sense z) (senseAfter s z)) _)).trans (handSense_same z _).retunes
  split
  · exact sensed.work
  · exact ⟨_, sensed, examineRailsOf_calm _ _⟩

theorem setReading_same (v : Option (SensorNo × Uptime)) (s : State) : Same s (s.setReading v) :=
  (Same.refl s).keep rfl rfl rfl rfl rfl rfl

theorem failedRead_same (n : SensorNo) (k : FailureKind) (s : State) : Same s (failedRead n k s) := by
  have set : ∀ v, Same s (s.setSensor n v) := fun v => (Same.refl s).keep rfl rfl rfl rfl rfl rfl
  unfold failedRead
  dsimp only
  split
  · exact ((set _).publish (publishes_logEvent _ _)).publish (publishes_publishSensor n _)
  · exact (set _).publish (publishes_publishSensor n _)

theorem readOutcome_same (n : SensorNo) (o : ReadOutcome) (s : State) : Same s (readOutcome n o s) := by
  have set : ∀ v, Same s (s.setSensor n v) := fun v => (Same.refl s).keep rfl rfl rfl rfl rfl rfl
  cases o
  case good first second =>
    unfold readOutcome goodRead
    dsimp only
    split
    · exact ((set _).publish (publishes_logEvent _ _)).publish (publishes_publishSensor n _)
    · exact (set _).publish (publishes_publishSensor n _)
  all_goals exact failedRead_same n _ s

/-! ### The fan monitor (R107 to R114) -/

theorem setFan_same {f : FanNo} {v : Fan} (hv : v.charge = (s.fan f).charge) : Same s (s.setFan f v) := by
  refine ⟨⟨⟨rfl, rfl, rfl, rfl, rfl, rfl, fun _ => rfl⟩, fun g => ?_⟩, fun _ => rfl, fun _ => rfl⟩
  rw [State.fan_setFan]
  split
  · rename_i h; subst h; exact hv
  · rfl

theorem edgeFan_charge (v : Fan) (d : FanDesc) (n : Nat) (ms : Uptime) (us : Fin 1000) : (edgeFan v d n ms us).charge = v.charge := by
  unfold edgeFan
  split
  · rfl
  · dsimp only
    split
    · rfl
    · split <;> rfl

theorem judge_charge (f : FanNo) (v : Fan) (d : FanDesc) (g : Bool) : (judge f v d g).1.charge = v.charge := by
  unfold judge
  dsimp only
  split <;> (repeat' split) <;> rfl

theorem evaluateFan_same (f : FanNo) (s : State) : Same s (evaluateFan f s) := by
  unfold evaluateFan
  dsimp only
  split
  · refine ((setFan_same ?_).publish (publishes_logEvents _ _)).publish (publishes_rewriteFan f _)
    exact judge_charge _ _ _ _
  · exact .refl s

/-! ### The indicator engine (R120 to R134) -/

theorem handShown_same (cs : Vector Colour 96) (b : BayNo) (s : State) : Same s (handShown cs b s) := by
  have k : ∀ v, Same s (s.setBay b { s.bay b with shown := v }) := fun v => (Same.refl s).setBay (by rfl)
  unfold handShown
  split
  · exact .refl s
  · exact (k _).publish (publishes_publishBay b _)

theorem indicators_same (s : State) (v : IndicatorEngine) : Same s { s with ie := v } :=
  (Same.refl s).keep rfl rfl rfl rfl rfl rfl

theorem refresh_same (s : State) : Same s (refresh s) := by
  have pending : Same s (applyPending s) := indicators_same s _
  have sent : Same s (sendFrame (composeAll (applyPending s)) (applyPending s)) := pending.trans (indicators_same _ _)
  exact sent.forEach _ fun b u hu => hu.trans (handShown_same _ b u)

/-! ### The ports (R137 to R164) -/

theorem setPort_same (x : Port) (v : PortUnit) (s : State) : Same s (s.setPort x v) := by
  cases x <;> exact (Same.refl s).keep rfl rfl rfl rfl rfl rfl

theorem Same.setPort (h : Same s t) (x : Port) (v : PortUnit) : Same s (t.setPort x v) := h.trans (setPort_same x v t)

theorem takeHeartbeat_same (x : Port) (s : State) : Same s (takeHeartbeat x s) := by
  unfold takeHeartbeat
  split
  · exact setPort_same x _ s
  · exact (((setPort_same x _ s).publish (publishes_logEvent _ _)).publish
      (publishes_noticePort _ _ noticePeer_legal _)).publish (publishes_rewriteLive _)

theorem writeHeartbeat_same (x : Port) (s : State) : Same s (writeHeartbeat x s) := by
  unfold writeHeartbeat
  split
  · exact .refl s
  · exact setPort_same x _ s
  · exact takeHeartbeat_same x s

theorem storeOwn_same (x : Port) (a : Nat) (bs : List Byte) (s : State) : Same s (storeOwn x a bs s) := by
  induction bs generalizing a s with
  | nil => exact .refl s
  | cons v vs ih =>
    unfold storeOwn
    split
    · exact ((Same.refl s).publish (.store s a [v])).trans (ih _ _)
    · exact ih _ _

theorem writeWindow_same (x : Port) (a : Nat) (d : WriteData) (s : State) : Same s (writeWindow x a d s) := by
  unfold writeWindow
  split
  · exact setPort_same x _ s
  · exact setPort_same x _ s
  · exact setPort_same x _ s
  · exact writeHeartbeat_same x s
  · exact storeOwn_same x _ _ s

theorem strayPost_same (x : Port) (n : SlotNo) (k : Bool) (s : State) : Same s (strayPost x n k s) :=
  (setPort_same x _ s).publish (publishes_logEvent _ _)

theorem silencePost_same (x : Port) (n : SlotNo) (s : State) : Same s (silencePost x n s) := by
  unfold silencePost
  split
  · split
    · exact (((Same.refl s).publish (.store s _ _)).setPort x _).finishSlot x n _
    · exact strayPost_same x n _ s
  · exact .refl s

theorem silenceLingering_same (x : Port) (n : SlotNo) (s : State) : Same s (silenceLingering x n s) := by
  unfold silenceLingering
  split
  · exact (Same.refl s).endLingering _ _
  · exact .refl s

theorem setHolder_same (v : Option Port) (b : BayNo) (s : State) : Same s (setHolder v b s) := by
  have k : Same s (s.setBay b { s.bay b with holder := v }) := (Same.refl s).setBay (by rfl)
  exact k.publish (publishes_publishBay b _)

theorem releaseClaims_same (x : Port) (s : State) : Same s (releaseClaims x s) :=
  (Same.refl s).forEach _ fun b u hu => by
    dsimp only
    split
    · exact hu.trans (setHolder_same none b u)
    · exact hu

theorem fallSilent_same (x : Port) (s : State) : Same s (fallSilent x s) := by
  have clear : ∀ u : State, Same u (clearLayers x u) := fun u => by
    cases x <;> exact (Same.refl u).keep rfl rfl rfl rfl rfl rfl
  unfold fallSilent
  dsimp only
  have released := ((((setPort_same x { s.port x with state := .silent, silenceEnd := none } s).publish
    (publishes_rewriteLive _)).publish (publishes_logEvent (eventPortSilent x (claimCount s x) (silencedOrders s x)) _)).publish
    (publishes_noticePort (otherPort x) noticePeer noticePeer_legal _)).trans (releaseClaims_same x _)
  exact ((released.trans (clear _)).forEach _ fun n u hu => hu.trans (silenceLingering_same x n u)).forEach _
    fun n u hu => hu.trans (silencePost_same x n u)

end

end Sys2Proof.Machine
end

section
/-! SUPPORT. What each order kind does at its owner, and order intake, by what they keep (chapter 8). -/

namespace Sys2Proof.Machine

section
variable {s t u : State} {b : BayNo}

/-- One order's work: steady, and the bays it makes spin up are fit. -/
structure Handled (s t : State) : Prop where
  steady : Steady s t
  settles : Settles s t

theorem Calm.handled (h : Calm s t) : Handled s t := ⟨h.toSteady, h.settles⟩
theorem Same.handled (h : Same s t) : Handled s t := h.calm.handled
theorem Handled.trans_calm (h : Handled s t) (k : Calm t u) : Handled s u :=
  ⟨h.steady.trans k.toSteady, h.settles.trans_calm k⟩
theorem Handled.of_prior (h : Steady s t) (hb : ∀ b, (s.bay b).state.held ≠ some .spinup → (t.bay b).state.held ≠ some .spinup)
    (k : Handled t u) : Handled s u := ⟨h.trans k.steady, fun b hs => k.settles b (hb b hs)⟩
theorem Handled.of_same (h : Same s t) (k : Handled t u) : Handled s u :=
  .of_prior h.calm.toSteady (fun b hb => by rwa [h.held b]) k

/-! ### BAY_POWER_ON (R18, R19) -/

/-- The priority, profile and link of a bay that is not in the queue set. -/
theorem applyPowerOn_handled (hb : (s.bay b).state.held ≠ some .queued) (p : Fin 4) (f : ProfileNo)
    (l : Option (Port × SlotNo)) : Handled s (publishBay b (applyPowerOn b p f l s)) := by
  have k : Beside b True s (applyPowerOn b p f l s) := (Beside.refl b True s).setBay _
  have hbay : (applyPowerOn b p f l s).bay b = { s.bay b with priority := p, profile := f, link := l } := by simp [applyPowerOn]
  refine Handled.trans_calm ⟨k.steady ⟨?placed, ?due, ?spun, ?waits⟩ ?home, fun c hc => ?fit⟩
    (publishes_publishBay b _).still.calm
  case placed => exact placed_of_out hb (by rw [hbay]; exact hb) rfl
  case due => intro h; rw [Due, hbay]; exact h
  case spun =>
    intro h
    rw [Spun, hbay]
    exact h
  case waits => intro _ h; rwa [hbay] at h
  case home => intro h; rw [Home, hbay]; exact h
  case fit =>
    by_cases hcb : c = b
    · subst hcb; exact fit_of_rest (by rwa [hbay])
    · exact ⟨k.drawn hcb fun e => absurd e hc, k.roomy hcb fun e => absurd e hc⟩

theorem powerOnSeated_handled {h : Seated} (hs : (s.bay b).state = .seated h) (p : Fin 4) (f : ProfileNo)
    (l : Option (Port × SlotNo)) : Handled s (powerOnSeated b h p f l s).1 := by
  have k : Beside b True s (applyPowerOn b p f l s) := (Beside.refl b True s).setBay _
  have hbay : (applyPowerOn b p f l s).bay b = { s.bay b with priority := p, profile := f, link := l } := by simp [applyPowerOn]
  have held : (s.bay b).state.held = some h := by rw [hs]; rfl
  unfold powerOnSeated
  cases h <;> dsimp only
  case idle =>
    refine (((k.moveBay _).publish (publishes_publishBay b _)).joinQueue (by simp [held]) ?held ?queue ?charge).handled
    case held => simp [BayState.held]
    case queue => simp [applyPowerOn]
    case charge => exact fun hd => by simpa [applyPowerOn] using hd.charge_zero (by simp [held]) (by simp [held])
  case queued =>
    have due : Due s b → Due (publishBay b (applyPowerOn b p f l s)) b := fun h => by
      rw [Due, publishBay_bay, publishBay_charge, hbay]; exact h
    split <;> dsimp only
    case isTrue hp =>
      refine (((k.publish (publishes_publishBay b _)).calm_of_rest ?rest ?placed due).trans (examineIf_calm _ b _)).handled
      case rest => rw [publishBay_bay, hbay]; simp [held]
      case placed =>
        intro h
        rw [Placed, publishBay_bay, publishBay_ps, hbay, ← hp]
        exact h
    case isFalse =>
      exact ((k.publish (publishes_publishBay b _)).moveInQueue (by rw [publishBay_bay, hbay]; exact held) due).handled
  case locked => exact (Calm.refl s).handled
  all_goals exact applyPowerOn_handled (by simp [held]) p f l

theorem startLinger_same (x : Port) (n : SlotNo) (l : Nat) (s : State) : Same s (startLinger x n l s) :=
  (Same.refl s).keep rfl rfl rfl rfl rfl rfl

theorem decidePowerOn_handled (x : Port) (n : SlotNo) (b : BayNo) (p : Fin 4) (f : Nat) (w : Bool) (l : Nat) (s : State) :
    Handled s (decidePowerOn x n b p f w l s).1 := by
  unfold decidePowerOn bayAnswer
  split
  case h_5 h hs =>
    dsimp only
    split
    · exact (Calm.refl s).handled
    · split
      · exact powerOnSeated_handled hs p _ _
      · split
        · exact (Calm.refl s).handled
        · split
          case isTrue ha =>
            dsimp only
            exact applyPowerOn_handled (by rw [hs, ha]; simp [BayState.held]) p _ _
          case isFalse =>
            exact .of_same (startLinger_same x n l s)
              (powerOnSeated_handled (s := startLinger x n l s) (show ((startLinger x n l s).bay b).state = _ from hs) p _ _)
  all_goals exact (Calm.refl s).handled

/-! ### BAY_POWER_OFF, CLEAR_BAY_FAULT and the other bay orders (R16, R20, R62, R156, R157) -/

theorem powerOffHeld_calm {h : Seated} (held : (s.bay b).state.held = some h) : Calm s (powerOffHeld b h s).1 := by
  have k := Beside.refl b True s
  unfold powerOffHeld
  cases h <;> dsimp only
  case idle => exact .refl s
  case locked => exact .refl s
  case queued =>
    refine (k.leaveQueue.moveHeld _).calm_of_rest ?rest (fun _ => ?placed) fun hd => ?due
    case rest => simp [moveHeld, withHeld_held held]
    case placed =>
      rw [Placed, if_neg (by simp [moveHeld, withHeld_held held]), moveHeld, moveBay_ps, leaveQueue_queue, entriesOf_withoutBay,
        if_pos rfl]
    case due =>
      rw [Due, moveHeld, moveBay_charge, leaveQueue_charge, hd.charge_zero (by simp [held]) (by simp [held]), chargeDue_zero] <;>
        simp [withHeld_held held]
  case cooloff =>
    refine ((k.setBay _).moveHeld _).calm_of_off (by simp [held]) ?queue ?_ ?_ ?_ fun hd => ?charge
    case queue => simp [moveHeld]
    case charge => simpa [moveHeld] using hd.charge_zero (by simp [held]) (by simp [held])
    all_goals simp [moveHeld, withHeld_held held]
  all_goals
    refine ((k.powerDown _ _).moveHeld _).calm_of_off (by simp [held]) ?queue ?_ ?_ ?_ fun _ => ?charge
    case queue => simp [moveHeld]
    case charge => simp [moveHeld]
    all_goals simp [moveHeld, withHeld_held held]

theorem carryPowerOff_calm {h : Seated} (held : (s.bay b).state.held = some h) : Calm s (carryPowerOff b h s).1 :=
  (((powerOffHeld_calm held).same (finishLink_same b _ _)).publish (publishes_publishBay b _)).trans (examineIf_calm _ b _)

theorem decidePowerOff_calm (b : BayNo) (s : State) : Calm s (decidePowerOff b s).1 := by
  unfold decidePowerOff bayAnswer
  split
  case h_4 h hs => exact carryPowerOff_calm (by rw [hs]; rfl)
  case h_5 h hs => exact carryPowerOff_calm (by rw [hs]; rfl)
  all_goals exact .refl s

theorem clearRetries_same (b : BayNo) (s : State) : Same s (clearRetries b s) := by
  have k : Same s (s.setBay b { s.bay b with retries := 0 }) := (Same.refl s).setBay (by rfl)
  exact k

theorem clearHeld_calm (x : Port) (b : BayNo) (s : State) : Calm s (clearHeld x b (s.bay b).state.held s).1 := by
  have k : Beside b True s (clearRetries b s) := (Beside.refl b True s).setBay _
  unfold clearHeld
  dsimp only
  split <;> dsimp only
  case h_1 held =>
    refine (((k.moveHeld _).publish (publishes_logEvent _ _)).publish (publishes_publishBay b _)).calm_of_off (by simp [held])
      ?queue ?_ ?_ ?_ fun hd => ?charge
    case queue => simp [moveHeld, clearRetries]
    case charge => simpa [moveHeld, clearRetries] using hd.charge_zero (by simp [held]) (by simp [held])
    all_goals simp [moveHeld, clearRetries, withHeld_held held]
  case h_2 held =>
    refine (((k.setBay _).moveHeld _).publish (publishes_publishBay b _)).calm_of_off (by simp [held]) ?queue ?_ ?_ ?_
      fun hd => ?charge
    case queue => simp [moveHeld, clearRetries]
    case charge => simpa [moveHeld, clearRetries] using hd.charge_zero (by simp [held]) (by simp [held])
    all_goals simp [moveHeld, clearRetries, withHeld_held held]
  all_goals exact ((clearRetries_same b s).publish (publishes_publishBay b _)).calm

theorem decideClear_calm (x : Port) (b : BayNo) (s : State) : Calm s (decideClear x b s).1 := by
  unfold decideClear
  dsimp only
  split
  · exact .refl s
  · exact clearHeld_calm x b s

theorem forEach_setHolder_same (v : Option Port) (l : List BayNo) (s : State) : Same s (forEach l (setHolder v) s) :=
  (Same.refl s).forEach l fun b u hu => hu.trans (setHolder_same v b u)

theorem decideClaim_same (x : Port) (l : List BayNo) (s : State) : Same s (decideClaim x l s).1 := by
  unfold decideClaim
  split
  · exact .refl s
  · split <;> try dsimp only
    · exact .refl s
    · split
      · exact .refl s
      · exact forEach_setHolder_same _ _ s

theorem decideRelease_same (x : Port) (l : List BayNo) (s : State) : Same s (decideRelease x l s).1 := by
  unfold decideRelease
  split
  · exact .refl s
  · exact forEach_setHolder_same _ _ s

theorem decidePolicy_same (l : List BayNo) (p : Policy) (s : State) : Same s (decidePolicy l p s).1 := by
  have set : ∀ b u, Same u (setPolicy p b u) := fun b u => by
    have k : Same u (u.setBay b { u.bay b with policy := p }) := (Same.refl u).setBay (by rfl)
    exact k.publish (publishes_publishBay b _)
  unfold decidePolicy
  split
  · exact .refl s
  · split
    · exact .refl s
    · exact (Same.refl s).forEach l fun b u hu => hu.trans (set b u)

/-! ### SET_PROFILE and SET_RAIL_LIMIT (R46, R47) -/

theorem putProfile_steady (p : ProfileNo) (v : Profile) (s : State) : Steady s (putProfile p v s) :=
  ⟨⟨rfl, rfl, fun _ => rfl, fun _ => id, id, fun _ => id, fun _ => ⟨id, id, id, fun _ h => h⟩⟩, fun _ => rfl, fun _ => rfl, fun _ => id⟩

theorem decideProfile_handled (p : ProfileNo) (v : Profile) (s : State) : Handled s (decideProfile p v s).1 := by
  unfold decideProfile
  split
  · exact (Calm.refl s).handled
  · split
    · exact (Calm.refl s).handled
    · have k := (publishes_rewriteProfiles (putProfile p v s)).still
      exact .of_prior ((putProfile_steady p v s).trans k.calm.toSteady) (fun b hb => by rw [k.held]; exact hb)
        (examineRailsOf_calm _ _).handled

theorem decideLimit_handled (r : RailNo) (d i : Nat) (s : State) : Handled s (decideLimit r d i s).1 := by
  unfold decideLimit
  dsimp only
  refine Handled.trans_calm ?_ (publishes_publishRail r _).still.calm
  exact .of_prior (steady_setRail s r rfl) (fun b hb => hb) ⟨recomputeLimit_steady r _, recomputeLimit_settles r _⟩

/-! ### The orders of the other blocks (R93 to R95, R122, R125, R129, R153) -/

theorem setLayer_same (x : Port) (b : BayNo) (v : PatternNo) (s : State) : Same s (setLayer x b v s) := by
  cases x <;> exact indicators_same s _

theorem decideIndication_same (x : Port) (l : List BayNo) (p : Nat) (s : State) : Same s (decideIndication x l p s).1 := by
  unfold decideIndication
  split
  · exact .refl s
  · exact (Same.refl s).forEach l fun b u hu => hu.trans (setLayer_same x b _ u)

theorem decideLocate_same (b : BayNo) (a d : Nat) (s : State) : Same s (decideLocate b a d s).1 := by
  have set : ∀ v, Same s (setLocate b v s) := fun v => indicators_same s _
  unfold decideLocate
  dsimp only
  split
  · exact .refl s
  · split <;> split <;> [exact .refl s; exact set _; exact .refl s; exact set _]

theorem decidePattern_same (n : PatternNo) (g : Nat → Nat) (s : State) : Same s (decidePattern n g s).1 := by
  unfold decidePattern
  dsimp only
  split
  · exact .refl s
  · split
    · exact .refl s
    · split
      · exact .refl s
      · exact indicators_same s _

theorem cooling_same (s : State) (v : CoolingController) : Same s { s with cc := v } :=
  (Same.refl s).keep rfl rfl rfl rfl rfl rfl

theorem setZone_same (z : ZoneNo) (v : Zone) (s : State) : Same s (s.setZone z v) :=
  (Same.refl s).keep rfl rfl rfl rfl rfl rfl

theorem putZone_same (z : ZoneNo) (v : Zone) (s : State) : Same s (publishZone z (s.setZone z v)) :=
  (setZone_same z v s).publish (publishes_publishZone z _)

theorem decideCurve_same (z : ZoneNo) (g : Nat → Nat) (s : State) : Same s (decideCurve z g s).1 := by
  unfold decideCurve
  dsimp only
  split
  · split <;> try dsimp only
    · exact .refl s
    · exact putZone_same z _ s
  · exact .refl s

theorem decideOverride_same (x : Port) (z : ZoneNo) (a d e : Nat) (s : State) : Same s (decideOverride x z a d e s).1 := by
  unfold decideOverride putOverride
  dsimp only
  split
  · exact .refl s
  · split <;> try dsimp only
    · exact putZone_same z _ s
    · split <;> try dsimp only
      · exact putZone_same z _ s
      · exact .refl s

theorem decideCancel_same (x : Port) (n : SlotNo) (s : State) : Same s (decideCancel x n s).1 := by
  unfold decideCancel
  split
  · exact (Same.refl s).endLingering _ _
  · exact .refl s

/-! ### Order intake (R145 to R150) -/

theorem routeOrder_handled (c : Context) (s : State) : Handled s (routeOrder c s).1 := by
  unfold routeOrder finished
  dsimp only
  split <;> try dsimp only
  · exact (decideClaim_same _ _ s).handled
  · exact (decideRelease_same _ _ s).handled
  · exact decidePowerOn_handled _ _ _ _ _ _ _ s
  · exact (decidePowerOff_calm _ s).handled
  · exact (decideClear_calm _ _ s).handled
  · exact (decidePolicy_same _ _ s).handled
  · exact decideProfile_handled _ _ s
  · exact (decideIndication_same _ _ _ s).handled
  · exact (decideLocate_same _ _ _ s).handled
  · exact (decidePattern_same _ _ s).handled
  · exact (decideCurve_same _ _ s).handled
  · exact (decideOverride_same _ _ _ _ _ s).handled
  · exact decideLimit_handled _ _ _ s
  · exact (decideCancel_same _ _ s).handled
  · exact (Calm.refl s).handled

theorem finishSlot_same (x : Port) (n : SlotNo) (o : Answer) (s : State) : Same s (finishSlot x n o s) :=
  (Same.refl s).finishSlot x n o

theorem decideOrder_handled (c : Context) (s : State) : Handled s (decideOrder c s) := by
  unfold decideOrder
  split
  · exact (finishSlot_same _ _ _ s).handled
  · split
    · exact (finishSlot_same _ _ _ s).handled
    · split
      · exact (finishSlot_same _ _ _ s).handled
      · dsimp only
        split
        · exact (routeOrder_handled c s).trans_calm (finishSlot_same _ _ _ _).calm
        · exact routeOrder_handled c s

theorem takeSlot_same (x : Port) (n : SlotNo) (s : State) : Same s (takeSlot x n s) := by
  have k : Same s ((s.setContexts (contextFrom x n s :: s.oi.contexts)).store (slotBase x n) [slotTaken]) :=
    (Same.refl s).keep rfl rfl rfl rfl rfl rfl
  exact k.setPort x _

theorem handlePost_handled (x : Port) (n : SlotNo) (s : State) : Handled s (handlePost x n s) := by
  unfold handlePost
  split
  · exact (strayPost_same x n _ s).handled
  · split
    · exact .of_same (takeSlot_same x n s) (decideOrder_handled _ _)
    · exact (strayPost_same x n _ s).handled

theorem passTurn_same (x : Port) (s : State) : Same s (passTurn x s) := (Same.refl s).keep rfl rfl rfl rfl rfl rfl

theorem takeNextPost_handled (s : State) : Handled s (takeNextPost s) := by
  unfold takeNextPost
  split
  · exact (handlePost_handled _ _ s).trans_calm (passTurn_same _ _).calm
  · exact (Calm.refl s).handled

theorem postOrder_same (x : Port) (n : SlotNo) (k : Byte) (bytes : List Byte) (s : State) : Same s (postOrder x n k bytes s) := by
  have stored : Same s (((s.store (slotBase x n + 1) [k]).store (slotBase x n + 4) (argsOf bytes).toList).store
      (slotBase x n) [slotPosted]) := (Same.refl s).keep rfl rfl rfl rfl rfl rfl
  exact stored.setPort x _

theorem intakeUntil_steady (fuel : Nat) (x : Port) (n : SlotNo) (s : State) : Steady s (intakeUntil fuel x n s) := by
  induction fuel generalizing s with
  | zero => exact (Calm.refl s).toSteady
  | succ k ih =>
    unfold intakeUntil
    split
    · exact (takeNextPost_handled s).steady.trans (ih _)
    · exact (Calm.refl s).toSteady

theorem commandOrder_steady (x : Port) (n : SlotNo) (k : Byte) (bytes : List Byte) (s : State) :
    Steady s (commandOrder x n k bytes s) := by
  unfold commandOrder
  split
  · exact (Calm.refl s).toSteady
  · exact (postOrder_same x n k bytes s).calm.toSteady
  · exact (postOrder_same x n k bytes s).calm.toSteady.trans (intakeUntil_steady _ x n _)

/-- With no other post set, an order command handles its own order and no other, so that what it makes spin up is fit. -/
theorem commandOrder_settles (x : Port) (n : SlotNo) (k : Byte) (bytes : List Byte) (s : State) (ha : s.pa.post = 0)
    (hb : s.pb.post = 0) : Settles s (commandOrder x n k bytes s) := by
  have posts : ∀ y, (s.port y).post = 0 := fun y => by cases y <;> [exact ha; exact hb]
  have post := postOrder_same x n k bytes s
  unfold commandOrder
  split
  case h_1 => exact (Calm.refl s).settles
  case h_2 => exact post.calm.settles
  case h_3 hr =>
    cases hc : contextOf s x n with
    | none =>
      have e := commandOrder_alone x n k bytes s hr (posts x) (posts _) hc
      simp only [commandOrder, hr] at e
      rw [e]
      exact ((Handled.of_same (post.trans (takeSlot_same x n _)) (decideOrder_handled _ _)).trans_calm
        (passTurn_same x _).calm).settles
    | some c =>
      have posted1 : posted (postOrder x n k bytes s) x n = true := by
        simp [posted, postOrder_post x n k bytes s (posts x), slotBit_bit]
      have taken : takeNextPost (postOrder x n k bytes s) = passTurn x (strayPost x n true (postOrder x n k bytes s)) := by
        simp [takeNextPost, nextPost_postOrder x n k bytes s (posts x) (posts _), handlePost, postOrder_contextOf, hc]
      have posted2 : posted (takeNextPost (postOrder x n k bytes s)) x n = false := by
        rw [taken]
        have quiet := (Quiet.refl (clearPost x n (postOrder x n k bytes s))).logEvent
          (eventStrayPost x n (slotState (postOrder x n k bytes s) x n) true)
        have hpass : ∀ u : State, (passTurn x u).port x = u.port x := fun u => by cases x <;> rfl
        rw [posted, hpass, show (strayPost x n true (postOrder x n k bytes s)) = logEvent
          (eventStrayPost x n (slotState (postOrder x n k bytes s) x n) true) (clearPost x n (postOrder x n k bytes s)) from rfl,
          (quiet.port x).post]
        simp [clearPost, slotBit_bit]
      rw [intakeUntil_posted posted1, intakeUntil_done posted2]
      exact (Handled.of_same post (takeNextPost_handled _)).settles

end

end Sys2Proof.Machine
end

section
/-! SUPPORT. The cooling period, the end of LOADING and the resets by what they keep (R85, R183, R185). -/

namespace Sys2Proof.Machine

section
variable {s t u : State} {b : BayNo}

/-! ### The cooling period (R32, R85, R97 to R99) -/

/-- A change of the fans and of the books of rails: the bays, the queue, the charges and the rails' other fields stay. -/
structure Refans (s t : State) : Prop where
  uptime : t.uptime = s.uptime
  dl : t.dl = s.dl
  bc : t.bc = s.bc
  zones : t.tu.zones = s.tu.zones
  duties : t.cc = s.cc
  charges : t.ps.charges = s.ps.charges
  queue : t.ps.queue = s.ps.queue
  rail : ∀ r, t.rail r = { s.rail r with fanPart := (t.rail r).fanPart, overLimit := (t.rail r).overLimit }

theorem Refans.refl (s : State) : Refans s s := ⟨rfl, rfl, rfl, rfl, rfl, rfl, rfl, fun _ => rfl⟩

theorem Refans.trans (h : Refans s t) (k : Refans t u) : Refans s u :=
  ⟨k.uptime.trans h.uptime, k.dl.trans h.dl, k.bc.trans h.bc, k.zones.trans h.zones, k.duties.trans h.duties,
    k.charges.trans h.charges, k.queue.trans h.queue, fun r => by rw [k.rail, h.rail]⟩

theorem Publishes.refans (h : Publishes s t) : Refans s t :=
  ⟨h.uptime, h.dl, h.bc, by rw [h.tu], h.cc, by rw [h.ps], by rw [h.ps], fun r => by rw [h.rail]⟩

theorem setRail_refans (s : State) (r : RailNo) {v : Rail}
    (hv : v = { s.rail r with fanPart := v.fanPart, overLimit := v.overLimit }) : Refans s (s.setRail r v) := by
  refine ⟨rfl, rfl, rfl, rfl, rfl, rfl, rfl, fun q => ?_⟩
  rw [State.rail_setRail]
  split
  · rename_i h; subst h; exact hv
  · rfl

theorem bookFans_refans (r : RailNo) (s : State) : Refans s (bookFans r s) := setRail_refans s r rfl

theorem evaluateOverLimit_refans (r : RailNo) (s : State) : Refans s (evaluateOverLimit r s) :=
  (setRail_refans s r rfl).trans (evaluateOverLimit_cases r s).refans

theorem Refans.bay (h : Refans s t) (b : BayNo) : t.bay b = s.bay b := by simp [State.bay, h.bc]

theorem fanDesc_eq (h : t.dl = s.dl) (f : FanNo) : t.fanDesc f = s.fanDesc f := by simp [State.fanDesc, h]
theorem fanDuty_eq (hd : t.dl = s.dl) (hc : t.cc = s.cc) (f : FanNo) : fanDuty t f = fanDuty s f := by
  rw [fanDuty, fanDesc_eq hd, State.zone, hc]
  rfl
theorem fanPartFor_eq (hd : t.dl = s.dl) (hc : t.cc = s.cc) (r : RailNo) : fanPartFor t r = fanPartFor s r := by
  simp only [fanPartFor, fanDesc_eq hd, fanDuty_eq hd hc]

/-- The new fan parts booked and every OVER_LIMIT evaluated. -/
def fansBooked (s : State) : State := forFour publishRail (forFour evaluateOverLimit (forFour bookFans s))

theorem fansBooked_refans (s : State) : Refans s (fansBooked s) := by
  have step : ∀ {f : RailNo → State → State}, (∀ r u, Refans u (f r u)) → ∀ u, Refans u (forFour f u) :=
    fun hf u => forEach_relates _ .refl .trans (fun r _ v => hf r v) u
  exact ((step bookFans_refans s).trans (step evaluateOverLimit_refans _)).trans
    (step (fun r u => (publishes_publishRail r u).refans) _)

/-- Once the fan charges are booked, the books hold with the fan parts that the new duties call for. -/
theorem fansBooked_booked {fans : RailNo → Nat} (h : Booked fans s) : Booked (fanPartFor s) (fansBooked s) := by
  have book : ∀ q, (forFour bookFans s).rail q = { s.rail q with fanPart := fanPartFor s q } := by
    intro q
    refine (forFour_at q (P := fun u => Refans s u ∧ u.rail q = s.rail q)
      (Q := fun u => Refans s u ∧ u.rail q = { s.rail q with fanPart := fanPartFor s q }) ?_ ?_ ?_ s ⟨.refl s, rfl⟩).2
    · rintro r hr u ⟨hu, hq⟩
      exact ⟨hu.trans (bookFans_refans r u), by rw [bookFans, State.rail_setRail_ne u hr, hq]⟩
    · rintro u ⟨hu, hq⟩
      exact ⟨hu.trans (bookFans_refans q u), by rw [bookFans, State.rail_setRail_same, hq, fanPartFor_eq hu.dl hu.duties]⟩
    · rintro r hr u ⟨hu, hq⟩
      exact ⟨hu.trans (bookFans_refans r u), by rw [bookFans, State.rail_setRail_ne u hr, hq]⟩
  have parts : Parts (fanPartFor s) (forFour bookFans s) := by
    intro q
    have k : Refans s (forFour bookFans s) := forEach_relates _ .refl .trans (fun r _ v => bookFans_refans r v) s
    have e : bayCharges (forFour bookFans s) q = bayCharges s q := by
      simp [bayCharges, railOf_eq k.dl, State.charge, k.charges]
    rw [book, e]
    exact ⟨(h.1 q).1, rfl⟩
  have evaluated : ∀ q, OverAgrees (forFour evaluateOverLimit (forFour bookFans s)) q := by
    intro q
    refine forFour_at q (P := fun _ => True) (Q := fun u => OverAgrees u q) (fun _ _ _ _ => trivial) ?_ ?_ _ trivial
    · intro u _
      refine (evaluateOverLimit_cases q u).still.overAgrees ?_
      simp only [OverAgrees, committed, State.rail_setRail_same]
      rfl
    · intro r hr u hu
      exact (evaluateOverLimit_cases r u).still.overAgrees (hu.setRail_ne (Ne.symm hr) _)
  have partsEvaluated : Parts (fanPartFor s) (forFour evaluateOverLimit (forFour bookFans s)) :=
    forEach_keeps _ (fun r _ u hu => (evaluateOverLimit_cases r u).still.parts (hu.setRail rfl rfl)) _ parts
  exact forEach_keeps _ (fun r _ u hu => (publishes_publishRail r u).still.booked hu) _ ⟨partsEvaluated, evaluated⟩

/-- The examinations that the falls of fan charges call for (R40). -/
theorem examineFell_calm (fell : RailNo → Bool) (s : State) :
    Calm s (forFour (fun r t => if fell r then examineRail r t else t) s) :=
  (Calm.refl s).forEach _ fun r u => by
    split
    · exact examineRail_calm r u
    · exact .refl u

/-- A change of the fans alone. -/
structure FansOnly (s t : State) : Prop extends Aside s t where
  drawer : ∀ d, (t.drawer d).state = (s.drawer d).state
  critical : ∀ z, (t.sense z).critical = (s.sense z).critical
  duties : t.cc = s.cc

theorem FansOnly.refl (s : State) : FansOnly s s := ⟨(Same.refl s).toAside, fun _ => rfl, fun _ => rfl, rfl⟩

theorem FansOnly.trans (h : FansOnly s t) (k : FansOnly t u) : FansOnly s u :=
  ⟨h.toAside.trans k.toAside, fun d => (k.drawer d).trans (h.drawer d), fun z => (k.critical z).trans (h.critical z),
    k.duties.trans h.duties⟩

theorem setFan_fansOnly (f : FanNo) (v : Fan) (s : State) : FansOnly s (s.setFan f v) :=
  ⟨⟨rfl, rfl, rfl, rfl, rfl, rfl, fun _ => rfl⟩, fun _ => rfl, fun _ => rfl, rfl⟩

/-- Handing a fan its duty and charge leaves it with that charge, and the other fans as they were. -/
theorem handFan_cases (f : FanNo) (s : State) :
    FansOnly s (handFan f s) ∧ ((handFan f s).fan f).charge = fanCharge (s.fanDesc f) (fanDuty s f) ∧
    ∀ g, g ≠ f → (handFan f s).fan g = s.fan g := by
  unfold handFan
  dsimp only
  split
  · rename_i h
    exact ⟨.refl s, h.2, fun _ _ => rfl⟩
  · have k := publishes_rewriteFanHanding f
      (s.setFan f { s.fan f with duty := fanDuty s f, charge := fanCharge (s.fanDesc f) (fanDuty s f) })
    have efm : ∀ g, (rewriteFanHanding f
        (s.setFan f { s.fan f with duty := fanDuty s f, charge := fanCharge (s.fanDesc f) (fanDuty s f) })).fan g =
        (s.setFan f { s.fan f with duty := fanDuty s f, charge := fanCharge (s.fanDesc f) (fanDuty s f) }).fan g :=
      fun g => by rw [State.fan, k.fm]; rfl
    refine ⟨(setFan_fansOnly f _ s).trans ⟨k.still.toAside, k.still.drawer, k.still.critical, k.cc⟩, ?_, fun g hg => ?_⟩
    · rw [efm, State.fan_setFan_same]
    · rw [efm, State.fan_setFan_ne s (Ne.symm hg)]

theorem handFans_fansOnly (s : State) : FansOnly s (forEach (List.finRange 12) handFan s) :=
  forEach_relates _ .refl .trans (fun f _ u => (handFan_cases f u).1) s

theorem handFans_charge (s : State) (f : FanNo) :
    ((forEach (List.finRange 12) handFan s).fan f).charge = fanCharge (s.fanDesc f) (fanDuty s f) := by
  have keep : ∀ {u : State}, FansOnly s u → fanCharge (u.fanDesc f) (fanDuty u f) = fanCharge (s.fanDesc f) (fanDuty s f) :=
    fun hu => by rw [fanDesc_eq hu.dl, fanDuty_eq hu.dl hu.duties]
  refine (forEach_at (List.nodup_finRange 12) (List.mem_finRange f) (P := FansOnly s)
    (Q := fun u => FansOnly s u ∧ (u.fan f).charge = fanCharge (s.fanDesc f) (fanDuty s f)) ?_ ?_ ?_ s (.refl s)).2
  · exact fun g _ u hu => hu.trans (handFan_cases g u).1
  · exact fun u hu => ⟨hu.trans (handFan_cases f u).1, (handFan_cases f u).2.1.trans (keep hu)⟩
  · rintro g hg u ⟨hu, hc⟩
    exact ⟨hu.trans (handFan_cases g u).1, by rw [(handFan_cases g u).2.2 f (Ne.symm hg)]; exact hc⟩

theorem driveFans_same (s : State) : Same s (driveFans s) := by
  unfold driveFans
  exact cooling_same s _

/-- The zones' duties of a period formed and the outputs driven. -/
def dutiesFormed (s : State) : State := driveFans (forFour (fun z t => t.setZone z (periodZone s z)) s)

theorem dutiesFormed_same (s : State) : Same s (dutiesFormed s) :=
  ((Same.refl s).forEach _ fun z u hu => hu.trans (setZone_same z _ u)).trans (driveFans_same _)

theorem handFanCharges_eq (s : State) :
    handFanCharges s = forFour (fun r t => if fanChargeFell s r then examineRail r t else t) (fansBooked s) := rfl

theorem handFanCharges_cc (s : State) : (handFanCharges s).cc = s.cc := by
  rw [handFanCharges_eq, ← (fansBooked_refans s).duties]
  refine forEach_keeps (P := fun u => u.cc = (fansBooked s).cc) _ (fun r _ u hu => ?_) _ rfl
  split
  · exact ((congrArg State.cc (examineRail_admits r u).same).trans rfl).trans hu
  · exact hu

theorem coolingPeriod_eq (s : State) :
    coolingPeriod s = forFour publishZone (forEach (List.finRange 12) handFan (handFanCharges (dutiesFormed s))) := rfl

/-- A cooling period after its booking: calm examinations, and then a change of the fans alone (R85). -/
theorem coolingPeriod_cases (s : State) :
    ∃ v, Calm (fansBooked (dutiesFormed s)) v ∧ FansOnly v (coolingPeriod s) ∧
      ∀ r, fanCharges (coolingPeriod s) r = fanPartFor (dutiesFormed s) r := by
  have published : Same (forEach (List.finRange 12) handFan (handFanCharges (dutiesFormed s))) (coolingPeriod s) :=
    (Same.refl _).forEach _ fun z u hu => hu.publish (publishes_publishZone z u)
  have cooling : (coolingPeriod s).cc = (forEach (List.finRange 12) handFan (handFanCharges (dutiesFormed s))).cc := by
    rw [coolingPeriod_eq]
    exact forEach_keeps (P := fun u => u.cc = _) _ (fun z _ u hu => (publishes_publishZone z u).cc.trans hu) _ rfl
  have fans := handFans_fansOnly (handFanCharges (dutiesFormed s))
  have calm := examineFell_calm (fanChargeFell (dutiesFormed s)) (fansBooked (dutiesFormed s))
  rw [← handFanCharges_eq] at calm
  refine ⟨_, calm, fans.trans ⟨published.toAside, published.drawer, published.critical, cooling⟩, fun r => ?_⟩
  have dl : (handFanCharges (dutiesFormed s)).dl = (dutiesFormed s).dl := calm.dl.trans (fansBooked_refans _).dl
  have dl' : (coolingPeriod s).dl = (dutiesFormed s).dl := (published.dl.trans fans.dl).trans dl
  simp only [fanCharges, fanPartFor, published.fans, handFans_charge, fanDesc_eq dl, fanDesc_eq dl',
    fanDuty_eq dl (handFanCharges_cc _)]

end

end Sys2Proof.Machine
end

section
/-! SUPPORT. The end of LOADING and the resets (R183 to R187), and what one command keeps, by the kind of the command. -/

namespace Sys2Proof.Machine

section
variable {s t u : State} {b : BayNo}

/-! ### An empty queue -/

/-- A change that leaves an empty queue empty, and the bays, the charges, the fans and the parts of the rails as they were. -/
structure Unqueued (s t : State) : Prop where
  dl : t.dl = s.dl
  bay : ∀ b, t.bay b = s.bay b
  charge : ∀ b, t.charge b = s.charge b
  fans : ∀ f, (t.fan f).charge = (s.fan f).charge
  queue : s.ps.queue = [] → t.ps.queue = []
  parts : ∀ fans, s.ps.queue = [] → Parts fans s → Parts fans t

theorem Unqueued.trans (h : Unqueued s t) (k : Unqueued t u) : Unqueued s u :=
  ⟨k.dl.trans h.dl, fun b => (k.bay b).trans (h.bay b), fun b => (k.charge b).trans (h.charge b),
    fun f => (k.fans f).trans (h.fans f), k.queue ∘ h.queue, fun fans hq hp => k.parts fans (h.queue hq) (h.parts fans hq hp)⟩

theorem Publishes.unqueued (h : Publishes s t) : Unqueued s t :=
  ⟨h.dl, h.bay, h.charge, h.still.fans, by rw [h.ps]; exact id, fun _ _ => h.still.parts⟩

theorem Unqueued.refl (s : State) : Unqueued s s := (Publishes.refl s).unqueued

theorem setRail_unqueued (s : State) (r : RailNo) {v : Rail} (hb : v.bayPart = (s.rail r).bayPart)
    (hf : v.fanPart = (s.rail r).fanPart) : Unqueued s (s.setRail r v) :=
  ⟨rfl, fun _ => rfl, fun _ => rfl, fun _ => rfl, id, fun _ _ h => h.setRail hb hf⟩

theorem setBlocked_unqueued (r : RailNo) (v : Option BayNo) (s : State) : Unqueued s (setBlocked r v s) :=
  setRail_unqueued s r (v := { s.rail r with blocked := v }) rfl rfl

theorem movedRail_unqueued (s : State) (r : RailNo) (p : Bool) (e : Option Uptime) : Unqueued s (s.setRail r (movedRail s r p e)) :=
  setRail_unqueued s r (v := movedRail s r p e) rfl rfl

theorem evaluateOverLimit_unqueued (r : RailNo) (s : State) : Unqueued s (evaluateOverLimit r s) :=
  (setRail_unqueued s r (v := { s.rail r with overLimit := decide ((s.rail r).admitLimit < committed s r) }) rfl rfl).trans
    (evaluateOverLimit_cases r s).unqueued

theorem candidate_empty (h : s.ps.queue = []) (r : RailNo) : candidate s r = none := by simp [candidate, h]

/-- With an empty queue a new admission limit changes the rail alone (R30). -/
theorem recomputeLimit_unqueued (r : RailNo) (hq : s.ps.queue = []) : Unqueued s (recomputeLimit r s) := by
  rw [recomputeLimit_eq]
  split
  · exact .refl s
  · obtain ⟨p, e, h⟩ := limitMoved_publishes r s
    have moved : Unqueued s (limitMoved r s) := (movedRail_unqueued s r p e).trans h.unqueued
    rw [examineRail_none (candidate_empty (moved.queue hq) r)]
    exact ((moved.trans (setBlocked_unqueued r none _)).trans (publishes_publishRail r _).unqueued).trans
      (publishes_publishRail r _).unqueued

theorem supply_unqueued (s : State) (v : SupplyState) : Unqueued s { s with ps := { s.ps with supply := v } } :=
  ⟨rfl, fun _ => rfl, fun _ => rfl, fun _ => rfl, id, fun _ _ => id⟩

theorem changeSupply_unqueued (v : SupplyState) (hq : s.ps.queue = []) : Unqueued s (changeSupply v s) := by
  have moved : Unqueued s (supplyMoved v s) := (supply_unqueued s v).trans (supplyMoved_publishes v s).unqueued
  exact forEach_keeps (P := Unqueued s) _ (fun r _ u hu => hu.trans (recomputeLimit_unqueued r (hu.queue hq))) _ moved

/-- A start-up check of a rail leaves the queue and the parts, and puts OVER_LIMIT right (R51, R52). -/
theorem startRailChecks_cases (r : RailNo) (s : State) :
    Unqueued s (startRailChecks r s) ∧ OverAgrees (startRailChecks r s) r ∧
    ∀ q, q ≠ r → OverAgrees s q → OverAgrees (startRailChecks r s) q := by
  have rising : ∃ u, u = (if (s.rail r).above = true ∧ (s.rail r).paused = false then takeRising r s else s) ∧
      Unqueued s u ∧ ∀ q, OverAgrees s q → OverAgrees u q := by
    refine ⟨_, rfl, ?_⟩
    split
    · rename_i h
      rw [takeRising, if_neg (by simp [h.2])]
      refine ⟨(setRail_unqueued s r (v := { s.rail r with paused := true }) rfl rfl).trans (publishes_logEvent _ _).unqueued,
        fun q hq => ?_⟩
      refine (publishes_logEvent _ _).still.overAgrees ?_
      by_cases hqr : q = r
      · subst hqr
        rw [OverAgrees, committed, State.rail_setRail_same]
        exact hq
      · exact hq.setRail_ne hqr _
    · exact ⟨.refl s, fun _ => id⟩
  obtain ⟨u, hu, k, keep⟩ := rising
  have eval := evaluateOverLimit_cases r u
  have pub := publishes_publishRail r (evaluateOverLimit r u)
  rw [startRailChecks, ← hu]
  refine ⟨(k.trans (evaluateOverLimit_unqueued r u)).trans pub.unqueued, ?_, fun q hq h => ?_⟩
  · refine pub.still.overAgrees (eval.still.overAgrees ?_)
    simp only [OverAgrees, committed, State.rail_setRail_same]
    rfl
  · exact pub.still.overAgrees (eval.still.overAgrees ((keep q h).setRail_ne hq _))

/-! ### The end of LOADING (R185) -/

/-- The part with the description applied and its records written, up to the supply state that the lines form. -/
def descriptionInForce (image : List Byte) (f : ScanFrame) (closed : BitVec 4) (good : BitVec 2) (s : State) : State :=
  forFour startDrawerEvent (logStart (writeRecords (applyDescription (loadImage image) f closed good (driveEnables s))))

theorem endLoading_eq (image : List Byte) (f : ScanFrame) (closed : BitVec 4) (good : BitVec 2) (s : State) :
    endLoading image f closed good s =
      startPresence f (startHeartbeat .b (startHeartbeat .a
        (forFour startRailChecks (startSupply (descriptionInForce image f closed good s))))) := rfl

theorem forEach_publishes {α : Type} (l : List α) {f : α → State → State} (hf : ∀ x u, Publishes u (f x u)) (s : State) :
    Publishes s (forEach l f s) := forEach_relates l .refl .trans (fun x _ u => hf x u) s

theorem writeRecords_publishes (s : State) : Publishes s (writeRecords s) := by
  unfold writeRecords
  exact (((((((((publishes_rewriteDescription s).trans (publishes_rewriteProfiles _)).trans
    (forEach_publishes _ publishes_rewriteBay _)).trans (forEach_publishes _ publishes_rewriteDrawer _)).trans
    (publishes_rewriteQueue _)).trans (forEach_publishes _ publishes_rewriteRail _)).trans
    (forEach_publishes _ publishes_rewriteZone _)).trans (forEach_publishes _ publishes_rewriteFan _)).trans
    (forEach_publishes _ publishes_rewriteSensor _))

theorem startDrawerEvent_publishes (w : DrawerNo) (s : State) : Publishes s (startDrawerEvent w s) := by
  unfold startDrawerEvent
  split
  · exact publishes_logEvent _ s
  · exact .refl s

theorem descriptionInForce_publishes (image : List Byte) (f : ScanFrame) (closed : BitVec 4) (good : BitVec 2) (s : State) :
    Publishes (applyDescription (loadImage image) f closed good (driveEnables s)) (descriptionInForce image f closed good s) :=
  (((writeRecords_publishes _).trans (publishes_logEvent _ _)).trans (publishes_noticeBoth _ noticeStart_legal _)).trans
    (forEach_publishes _ startDrawerEvent_publishes _)

theorem startSupply_unqueued (hq : s.ps.queue = []) : Unqueued s (startSupply s) := by
  unfold startSupply
  split
  · exact .refl s
  · exact changeSupply_unqueued _ hq

theorem startHeartbeat_same (x : Port) (s : State) : Same s (startHeartbeat x s) := by
  unfold startHeartbeat
  split
  · exact (setPort_same x _ s).trans (takeHeartbeat_same x _)
  · exact .refl s

theorem startPresence_calm (f : ScanFrame) (s : State) : Calm s (startPresence f s) := by
  unfold startPresence
  split
  · exact (Calm.refl s).forEach _ fun b u => applyPresence_calm b _ u
  · exact .refl s

/-- A bay that the end of LOADING finds is not QUEUED and calls for the charge it starts with (R3, R186, R187). -/
theorem startBay_held (s : State) (d : Description) (f : ScanFrame) (b : BayNo) :
    (startBay s d f b).state.held ≠ some .queued ∧ (startBay s d f b).state ≠ .seated .queued ∧
    (startBay s d f b).state.held ≠ some .spinup ∧
    startCharge (startBay s d f b) = chargeDue (startBay s d f b) := by
  have applied : (applyBay d s.uptime b (s.bay b)).state.held = none ∧
      startCharge (applyBay d s.uptime b (s.bay b)) = chargeDue (applyBay d s.uptime b (s.bay b)) := by
    cases hu : d.inUse b <;> simp [applyBay, hu, BayState.held, startCharge, chargeDue]
  have out : ∀ v : Bay, v.state.held = none → v.state.held ≠ some .queued ∧ v.state ≠ .seated .queued ∧
      v.state.held ≠ some .spinup := fun v hv => ⟨by simp [hv], fun e => by simp [e, BayState.held] at hv, by simp [hv]⟩
  have plain := out _ applied.1
  unfold startBay
  dsimp only
  split
  · exact ⟨plain.1, plain.2.1, plain.2.2, applied.2⟩
  · unfold reconcileBay
    dsimp only
    split
    · exact ⟨plain.1, plain.2.1, plain.2.2, applied.2⟩
    · split <;> simp [BayState.held, startCharge, chargeDue]

theorem applyDescription_bay (l : Loaded) (f : ScanFrame) (closed : BitVec 4) (good : BitVec 2) (s : State) (b : BayNo) :
    (applyDescription l f closed good s).bay b = startBay s l.desc f b := by
  simp [applyDescription, State.bay]

theorem applyDescription_queue (l : Loaded) (f : ScanFrame) (closed : BitVec 4) (good : BitVec 2) (s : State) :
    (applyDescription l f closed good s).ps.queue = [] := rfl

theorem applyDescription_due (l : Loaded) (f : ScanFrame) (closed : BitVec 4) (good : BitVec 2) (s : State) (b : BayNo) :
    Due (applyDescription l f closed good s) b := by
  rw [Due, applyDescription_bay, ← (startBay_held s l.desc f b).2.2.2]
  simp [applyDescription, State.charge]

/-- The rails start with the parts that the bays found running and the fans at their full draw make (R27, R32, R187). -/
theorem applyDescription_parts (l : Loaded) (f : ScanFrame) (closed : BitVec 4) (good : BitVec 2) (s : State) :
    Parts (fanCharges (applyDescription l f closed good s)) (applyDescription l f closed good s) := by
  intro r
  have rail : (applyDescription l f closed good s).rail r = startRail s l.desc f r := by simp [applyDescription, State.rail]
  have charge : ∀ b, (applyDescription l f closed good s).charge b = startCharge (startBay s l.desc f b) := fun b => by
    simp [applyDescription, State.charge]
  have fan : ∀ g, ((applyDescription l f closed good s).fan g).charge = if l.desc.fans[g].fitted then l.desc.fans[g].full else 0 := by
    intro g
    simp only [applyDescription, State.fan, Fin.getElem_fin, Vector.getElem_ofFn, Fin.eta, startFan]
    split <;> rfl
  rw [rail]
  refine ⟨?_, ?_⟩
  · simp only [bayCharges, charge]
    rfl
  · simp only [fanCharges, fan]
    refine congrArg List.sum (List.map_congr_left fun g _ => ?_)
    have desc : (applyDescription l f closed good s).fanDesc g = l.desc.fans[g] := rfl
    rw [desc]
    generalize l.desc.fans[g] = fan
    cases fan.fitted <;> simp

theorem Same.unqueued (h : Same s t) (hb : ∀ b, t.bay b = s.bay b) : Unqueued s t :=
  ⟨h.dl, hb, h.charge, h.fans, by rw [h.queue]; exact id, fun _ _ => h.parts⟩

theorem takeHeartbeat_bay (x : Port) (s : State) (b : BayNo) : (takeHeartbeat x s).bay b = s.bay b := by
  have set : ∀ v, (s.setPort x v).bay b = s.bay b := fun v => by cases x <;> rfl
  unfold takeHeartbeat
  split
  · exact set _
  · exact (((publishes_logEvent _ _).trans (publishes_noticePort _ _ noticePeer_legal _)).trans
      (publishes_rewriteLive _)).bay b |>.trans (set _)

theorem startHeartbeat_bay (x : Port) (s : State) (b : BayNo) : (startHeartbeat x s).bay b = s.bay b := by
  unfold startHeartbeat
  split
  · rw [takeHeartbeat_bay]
    cases x <;> rfl
  · rfl

/-- The end of LOADING in its parts: from a state with an empty queue whose parts are the sums, through checks that put OVER_LIMIT
right, to the sample of presence. -/
theorem endLoading_cases (image : List Byte) (f : ScanFrame) (closed : BitVec 4) (good : BitVec 2) (s : State) :
    ∃ a u, a = applyDescription (loadImage image) f closed good (driveEnables s) ∧ Unqueued a u ∧ (∀ r, OverAgrees u r) ∧
      endLoading image f closed good s = startPresence f u := by
  have described := (descriptionInForce_publishes image f closed good s).unqueued
  have empty : (descriptionInForce image f closed good s).ps.queue = [] := described.queue (applyDescription_queue _ _ _ _ _)
  have supplied := described.trans (startSupply_unqueued empty)
  have checked := forEach_keeps (P := Unqueued _) (List.finRange 4)
    (fun r _ u hu => hu.trans (startRailChecks_cases r u).1) _ supplied
  have beats := fun x u => (startHeartbeat_same x u).unqueued (startHeartbeat_bay x u)
  refine ⟨_, _, rfl, (checked.trans (beats .a _)).trans (beats .b _), fun r => ?_, endLoading_eq image f closed good s⟩
  refine (startHeartbeat_same .b _).overAgrees ((startHeartbeat_same .a _).overAgrees ?_)
  exact forFour_at r (P := fun _ => True) (Q := fun u => OverAgrees u r) (fun _ _ _ _ => trivial)
    (fun u _ => (startRailChecks_cases r u).2.1) (fun q hq u hu => (startRailChecks_cases q u).2.2 r (Ne.symm hq) hu) _ trivial

/-- A sample's presence level of a bay that is DISABLED or ABSENT changes no other bay, and leaves it with nothing seated. -/
theorem applyPresence_of_away (p : Bool) (h : (s.bay b).state = .disabled ∨ (s.bay b).state = .absent) (k : BayNo) :
    (k ≠ b → (applyPresence b p s).bay k = s.bay k) ∧ ((applyPresence b p s).bay b).state.held = none := by
  unfold applyPresence
  rcases h with h | h <;> rw [h] <;> dsimp only
  · exact ⟨fun _ => rfl, by rw [h]; rfl⟩
  · split
    · refine ⟨fun hk => ?_, by simp [BayState.held]⟩
      rw [publishBay_bay, moveBay, State.bay_setBay_ne _ (Ne.symm hk), State.bay_setBay_ne _ (Ne.symm hk)]
    · exact ⟨fun _ => rfl, by rw [h]; rfl⟩

/-- A sample of the presence of bays that are all DISABLED or ABSENT leaves every bay with nothing seated. -/
theorem samplePresence_away (f : ScanFrame) (l : List BayNo) (hl : l.Nodup) (s : State)
    (away : ∀ b ∈ l, (s.bay b).state = .disabled ∨ (s.bay b).state = .absent) (held : ∀ b, (s.bay b).state.held = none) (k : BayNo) :
    ((forEach l (fun b t => applyPresence b (f.presence.getLsbD b.val) t) s).bay k).state.held = none := by
  induction l generalizing s with
  | nil => exact held k
  | cons b l ih =>
    obtain ⟨hb, hl⟩ := List.nodup_cons.mp hl
    have turn := applyPresence_of_away (f.presence.getLsbD b.val) (away b (by simp))
    refine ih hl (applyPresence b (f.presence.getLsbD b.val) s) (fun c hc => ?_) fun c => ?_
    · rw [(turn c).1 fun e => hb (e ▸ hc)]
      exact away c (by simp [hc])
    · by_cases hcb : c = b
      · subst hcb; exact (turn c).2
      · rw [(turn c).1 hcb]; exact held c

/-- After a power-on reset the bays that the end of LOADING finds are DISABLED or ABSENT (R186). -/
theorem startBay_away {d : Description} {f : ScanFrame} (h : s.dl.resetKind = .powerOn) (b : BayNo) :
    (startBay s d f b).state = .disabled ∨ (startBay s d f b).state = .absent := by
  rw [startBay, h]
  cases hu : d.inUse b <;> simp [applyBay, hu]

/-- The end of LOADING leaves no bay in its surge. -/
theorem endLoading_rest (image : List Byte) (f : ScanFrame) (closed : BitVec 4) (good : BitVec 2) (s : State) (b : BayNo) :
    ((endLoading image f closed good s).bay b).state.held ≠ some .spinup := by
  obtain ⟨a, u, rfl, unqueued, -, e⟩ := endLoading_cases image f closed good s
  have bay : ∀ k, u.bay k = startBay (driveEnables s) (loadImage image).desc f k := fun k => by
    rw [unqueued.bay, applyDescription_bay]
  have kind : u.dl.resetKind = (driveEnables s).dl.resetKind := by rw [unqueued.dl]; rfl
  rw [e, startPresence]
  split
  case h_1 hk =>
    have away : ∀ k, (u.bay k).state = .disabled ∨ (u.bay k).state = .absent := fun k => by
      rw [bay]; exact startBay_away (kind.symm.trans hk) k
    rw [forBays, samplePresence_away f _ (List.nodup_finRange 96) u (fun k _ => away k)
      (fun k => by rcases away k with h | h <;> rw [h] <;> rfl) b]
    simp
  case h_2 =>
    rw [bay]
    exact (startBay_held _ _ f b).2.2.1

/-! ### The resets (R183) -/

theorem resetAll_bay (s : State) (b : BayNo) : (resetAll s).bay b = resetBay b := by
  simp [resetAll, State.reset, State.bay]

theorem keepSwitches_bay (old s : State) (b : BayNo) : (keepSwitches old s).bay b = pinResetBay old b := by
  simp [keepSwitches, State.bay]

/-- Either reset and RESET_N low leave every bay ABSENT, the queue empty and the part out of normal work. -/
structure Cleared (t : State) : Prop where
  bay : ∀ b, (t.bay b).state = .absent
  queue : t.ps.queue = []
  phase : t.phase ≠ .running

theorem powerOnReset_cleared (s : State) : Cleared (powerOnReset s) :=
  ⟨fun b => by rw [powerOnReset, resetAll_bay]; rfl, rfl, by simp [powerOnReset, resetAll, State.reset, State.phase]⟩

theorem keepSwitches_cleared (s : State) (b : BayNo) : ((keepSwitches s (resetAll s)).bay b).state = .absent := by
  rw [keepSwitches_bay]; rfl

theorem pinReset_cleared (s : State) : Cleared (pinReset s) :=
  ⟨fun b => keepSwitches_cleared s b, rfl,
    by simp [pinReset, setResetKind, keepSwitches, resetAll, State.reset, State.phase]⟩

theorem holdReset_cleared (s : State) : Cleared (holdReset s) :=
  ⟨fun b => keepSwitches_cleared s b, rfl, by simp [holdReset, State.phase]⟩

end

end Sys2Proof.Machine
end

section
/-! SUPPORT. What one command keeps, by its kind, and the invariants of power: the queue, the books and the conditions of an admission
(R31, R34 to R43, R52). -/

namespace Sys2Proof.Machine

section
variable {s t u : State} {b : BayNo} {c : Instr}

/-! ### Plain commands -/

/-- The commands that are one piece of handled work: all but the tick, the resets, the end of LOADING, the end of a stagger wait, the
cooling period, the orders, and the commands that sample several lines or end a temperature round. -/
def isPlain (c : Instr) : Bool :=
  match c with
  | .powerOnReset | .pinReset | .resetNGoesLow | .endOfLoading _ _ _ _ | .uptimeTick | .drawerLineSample _ | .drawerDebounceEnd _
  | .settleTimerEnd _ | .supplyLineSample _ | .staggerEnd _ | .temperatureRoundStart | .sensorReadComplete _ | .sensorReadTimeout
  | .coolingPeriod => false
  | c => !c.isOrder

theorem Handled.ite {p : Prop} [Decidable p] (h : p → Handled s t) : Handled s (if p then t else s) := by
  split
  · rename_i hp; exact h hp
  · exact (Calm.refl s).handled

theorem Handled.unless {p : Prop} [Decidable p] (h : ¬ p → Handled s t) : Handled s (if p then s else t) := by
  split
  · exact (Calm.refl s).handled
  · rename_i hp; exact h hp

theorem setSense_steady (r : RailNo) (n : Nat) (s : State) : Calm s (s.setRail r { s.rail r with sense := n }) :=
  calm_setRail s r rfl id

theorem bayScanSample_handled (f : ScanFrame) (s : State) :
    ∃ t, exec (.bayScanSample f) s = .next t ∧ Handled s t := by
  refine ⟨_, rfl, ?_⟩
  split
  · exact (Calm.refl s).handled
  · exact (driveEnables_same s).handled
  · exact (bayScan_calm f s).handled

theorem removalConfirmed_handled (b : BayNo) (s : State) :
    ∃ t, exec (.removalConfirmed b) s = .next t ∧ Handled s t := by
  refine ⟨_, rfl, ?_⟩
  split
  case h_1 h hs => exact .ite fun _ => (removeBay_calm hs).handled
  all_goals exact (Calm.refl s).handled

theorem takeRising_bay (r : RailNo) (s : State) (b : BayNo) : (takeRising r s).bay b = s.bay b := by
  unfold takeRising
  split
  · rfl
  · rw [logEvent_bay]; rfl

theorem risingCrossing_handled (r : RailNo) (n : Nat) (s : State) :
    ∃ t, exec (.risingCrossing r n) s = .next t ∧ Handled s t := by
  have k := setSense_steady r n s
  refine ⟨_, rfl, ?_⟩
  split
  · dsimp only
    split
    · refine .of_prior ((k.toSteady.trans (takeRising_steady r _)).trans (publishes_rewriteRail r _).still.calm.toSteady) ?_
        (Calm.refl _).handled
      intro b hb
      rw [(publishes_rewriteRail r _).bay, takeRising_bay]
      exact hb
    · exact (Calm.refl s).handled
    · exact k.handled
    · exact k.handled
  · exact k.handled

theorem fallingCrossing_handled (r : RailNo) (n : Nat) (s : State) :
    ∃ t, exec (.fallingCrossing r n) s = .next t ∧ Handled s t := by
  have k := setSense_steady r n s
  refine ⟨_, rfl, ?_⟩
  split
  · dsimp only
    split
    · split
      · have fell := (k.trans (takeFalling_calm r _)).publish (publishes_rewriteRail r _)
        split
        · exact fell.handled
        · exact (fell.trans (examineRail_calm r _)).handled
      · exact k.handled
    · exact (Calm.refl s).handled
    · exact k.handled
    · exact k.handled
  · exact k.handled

theorem waitLimitExpiry_handled (x : Port) (n : SlotNo) (s : State) :
    ∃ t, exec (.waitLimitExpiry x n) s = .next t ∧ Handled s t := by
  refine ⟨_, rfl, ?_⟩
  split
  · exact .ite fun _ => ((Same.refl s).endLingering _ _).handled
  · exact (Calm.refl s).handled

theorem fanMonitor_same (s : State) (n : Uptime) : Same s { s with fm := { s.fm with nextEvaluation := n } } :=
  ⟨⟨⟨rfl, rfl, rfl, rfl, rfl, rfl, fun _ => rfl⟩, fun _ => rfl⟩, fun _ => rfl, fun _ => rfl⟩

theorem fanEvaluation_handled (s : State) : ∃ t, exec .fanEvaluation s = .next t ∧ Handled s t :=
  ⟨_, rfl, .ite fun _ => ((fanMonitor_same s _).forEach _ fun f u hu => hu.trans (evaluateFan_same f u)).handled⟩

/-- Each plain command is handled work. -/
theorem exec_handled (hc : isPlain c = true) (s : State) : ∃ t, exec c s = .next t ∧ Handled s t := by
  cases c with
  | bayScanSample f => exact bayScanSample_handled f s
  | inserted b => exact ⟨_, rfl, .ite fun h => (insertBay_calm h.2.1).handled⟩
  | removalConfirmed b => exact removalConfirmed_handled b s
  | surgeEnd b => exact ⟨_, rfl, .ite fun h => ⟨(endSurge_keeps h.2.1).1, (endSurge_keeps h.2.1).2⟩⟩
  | coolOffEnd b => exact ⟨_, rfl, .ite fun h => (endCoolOff_calm h.2.1).handled⟩
  | retryClearance b => exact ⟨_, rfl, .ite fun _ => ((clearRetries_same b s).publish (publishes_publishBay b _)).handled⟩
  | supplyDebounceEnd n => exact ⟨_, rfl, .ite fun _ => ⟨changeLine_steady n s, changeLine_settles n s⟩⟩
  | risingCrossing r n => exact risingCrossing_handled r n s
  | fallingCrossing r n => exact fallingCrossing_handled r n s
  | holdOffEnd r =>
    exact ⟨_, rfl, .ite fun _ => (((endPause_calm r s).publish (publishes_rewriteRail r _)).trans (examineRail_calm r _)).handled⟩
  | overrideExpiry z => exact ⟨_, rfl, .ite fun _ => (putZone_same z _ s).handled⟩
  | tachEdge f us => exact ⟨_, rfl, .ite fun _ => (setFan_same (edgeFan_charge _ _ _ _ _)).handled⟩
  | tachTimeout f us => exact ⟨_, rfl, .ite fun _ => (setFan_same (by rfl)).handled⟩
  | fanEvaluation => exact fanEvaluation_handled s
  | indicatorRefresh => exact ⟨_, rfl, .ite fun _ => ((indicators_same s _).trans (refresh_same _)).handled⟩
  | loadingDarkFrame => exact ⟨_, rfl, .ite fun _ => ((indicators_same s _).trans (indicators_same _ _)).handled⟩
  | locateExpiry b => exact ⟨_, rfl, .ite fun _ => (indicators_same s _).handled⟩
  | postWrite x v => exact ⟨_, rfl, .unless fun _ => (setPort_same x _ s).handled⟩
  | noticeWrite x v => exact ⟨_, rfl, .unless fun _ => (setPort_same x _ s).handled⟩
  | noticeEnableWrite x v => exact ⟨_, rfl, .unless fun _ => (setPort_same x _ s).handled⟩
  | heartbeat x v => exact ⟨_, rfl, (writeHeartbeat_same x s).handled⟩
  | windowWrite x a d => exact ⟨_, rfl, .unless fun _ => (writeWindow_same x _ d s).handled⟩
  | silenceTimerEnd x => exact ⟨_, rfl, .ite fun _ => (fallSilent_same x s).handled⟩
  | takePost => exact ⟨_, rfl, .ite fun _ => takeNextPost_handled s⟩
  | waitLimitExpiry x n => exact waitLimitExpiry_handled x n s
  | _ => cases hc

/-- Each order command is the work of `commandOrder`. -/
theorem exec_order (hc : c.isOrder = true) : ∃ x n k bytes, ∀ s, exec c s = .next (commandOrder x n k bytes s) := by
  cases c with
  | claimBays | releaseBays | bayPowerOn | bayPowerOff | clearBayFault | setBayPolicy | setProfile | setIndication | locate
  | loadPattern | setZoneCurve | setZoneOverride | setRailLimit | cancelOrder => exact ⟨_, _, _, _, fun _ => rfl⟩
  | _ => cases hc

/-! ### A sweep of the drawers or of the zones -/

theorem forFour_keeps {f : Fin 4 → State → State} (hf : ∀ q u, Keeps u (f q u)) (s : State) : Keeps s (forFour f s) :=
  forEach_relates _ (fun u => (Same.refl u).keeps) Keeps.trans (fun q _ u => hf q u) s

/-- Work done for each of four parts, only one of which a flag of a bay goes by: if the bay makes a change that is made only while the
flag is set, the flag was set before the work or is after it. -/
theorem forFour_risen {f : Fin 4 → State → State} {I S : State → Prop} {g : State → Bool} (w : Fin 4)
    (inv : ∀ q u, I u → I (f q u)) (other : ∀ q, q ≠ w → ∀ u, I u → g (f q u) = g u)
    (rise : ∀ q u, I u → ¬ S u → S (f q u) → g (f q u) = true) (hI : I s) (hS : ¬ S s) (ht : S (forFour f s)) :
    g s = true ∨ g (forFour f s) = true := by
  refine (forFour_at w (P := fun u => I u ∧ g u = g s ∧ (S u → g s = true))
    (Q := fun u => I u ∧ (S u → g s = true ∨ g u = true)) ?before ?turn ?after s ⟨hI, rfl, fun h => absurd h hS⟩).2 ht
  case before =>
    rintro q hq u ⟨hu, hg, hrise⟩
    have hg' := (other q hq u hu).trans hg
    refine ⟨inv q u hu, hg', fun h => ?_⟩
    by_cases hSu : S u
    · exact hrise hSu
    · rw [← hg']; exact rise q u hu hSu h
  case turn =>
    rintro u ⟨hu, -, hrise⟩
    refine ⟨inv w u hu, fun h => ?_⟩
    by_cases hSu : S u
    · exact .inl (hrise hSu)
    · exact .inr (rise w u hu hSu h)
  case after =>
    rintro q hq u ⟨hu, hrise⟩
    refine ⟨inv q u hu, fun h => ?_⟩
    by_cases hSu : S u
    · rw [other q hq u hu]; exact hrise hSu
    · exact .inr (rise q u hu hSu h)

/-! ### The rises that a command makes -/

/-- A bay that a command makes spin up: what holds of it then (R38, R39, R41 to R43). -/
structure Raised (c : Instr) (s t : State) (b : BayNo) : Prop where
  home : drawerHome s b = true ∨ drawerHome t b = true
  homeNow : (∀ closed : BitVec 4, c ≠ .drawerLineSample closed) → drawerHome t b = true
  cool : (s.sense (s.bayDesc b).zone).critical = false ∨ (t.sense (s.bayDesc b).zone).critical = false
  coolNow : (c ≠ .temperatureRoundStart ∧ c ≠ .sensorReadTimeout ∧ ∀ o : ReadOutcome, c ≠ .sensorReadComplete o) →
    (t.sense (s.bayDesc b).zone).critical = false
  free : (s.rail (railOf s b)).stagger = false ∨ c = .staggerEnd (railOf s b)
  uptime : t.uptime = s.uptime
  dl : t.dl = s.dl
  spun : Spun t b
  drawn : (c.isOrder = true → s.pa.post = 0 ∧ s.pb.post = 0) → Drawn t b
  roomy : (c.isOrder = true → s.pa.post = 0 ∧ s.pb.post = 0) →
    (∃ n : SupplyNo, t.ps.lines[n].level = s.ps.lines[n].level) → Roomy t b

/-- A bay spins up from a state where its surge had not begun. -/
def Rises (s t : State) (b : BayNo) : Prop :=
  (s.bay b).state.held ≠ some .spinup ∧ (t.bay b).state.held = some .spinup

theorem spun_of_rest (h : (s.bay b).state.held ≠ some .spinup) : Spun s b := fun e => absurd e h
theorem home_of_rest (h : (s.bay b).state.held ≠ some .spinup) : Home s b := fun e => absurd e h

theorem free_of_waits (h : Waits s t b) (hb : Rises s t b) : (s.rail (railOf s b)).stagger = false := by
  by_contra hs
  exact hb.1 (h (by simpa using hs) hb.2)

/-- A steady change raises only bays that are home, in a zone not critical, on a rail not in a stagger wait. -/
theorem Steady.raised (h : Steady s t) (hb : Rises s t b) (hd : (c.isOrder = true → s.pa.post = 0 ∧ s.pb.post = 0) → Drawn t b)
    (hr : (c.isOrder = true → s.pa.post = 0 ∧ s.pb.post = 0) →
      (∃ n : SupplyNo, t.ps.lines[n].level = s.ps.lines[n].level) → Roomy t b) : Raised c s t b := by
  obtain ⟨hhome, hcool⟩ := h.home b (home_of_rest hb.1) hb.2
  rw [bayDesc_eq h.dl] at hcool
  exact ⟨.inr hhome, fun _ => hhome, .inr hcool, fun _ => hcool, .inl (free_of_waits (h.bay b).waits hb), h.uptime, h.dl,
    (h.bay b).spun (spun_of_rest hb.1), hd, hr⟩

theorem Handled.raised (h : Handled s t) (hb : Rises s t b) : Raised c s t b :=
  h.steady.raised hb (fun _ => (h.settles b hb.1).1) fun _ _ => (h.settles b hb.1).2

end

end Sys2Proof.Machine
end

section
/-! SUPPORT. The bays that each command makes spin up, and the agreement of the queue and the books over each command. -/

namespace Sys2Proof.Machine

section
variable {s t u : State} {b : BayNo} {c : Instr}

/-! ### Drawers, temperature rounds and supply lines -/

theorem Work.raised {D : DrawerNo → Prop} {Z : ZoneNo → Prop} (h : Work D Z s t) (hb : Rises s t b) : Raised c s t b := by
  have keeps := h.keeps
  obtain ⟨hhome, hcool⟩ := h.home hb.1 hb.2
  rw [bayDesc_eq keeps.dl] at hcool
  have fit := h.fit (fit_of_rest hb.1)
  exact ⟨.inr hhome, fun _ => hhome, .inr hcool, fun _ => hcool, .inl (free_of_waits (keeps.bay b).waits hb), keeps.uptime,
    keeps.dl, (keeps.bay b).spun (spun_of_rest hb.1), fun _ => fit.1, fun _ _ => fit.2⟩

/-- Whether a bay's zone is not critical. -/
def zoneCool (s : State) (b : BayNo) : Bool := !(s.sense (s.bayDesc b).zone).critical

theorem Work.drawerHome_eq {q : DrawerNo} {Z : ZoneNo → Prop} (h : Work (· = q) Z s t) (hq : (s.bayDesc b).drawer ≠ some q) :
    drawerHome t b = drawerHome s b := by
  simp only [drawerHome, bayDesc_eq h.keeps.dl]
  split
  · rename_i d hd
    rw [h.drawer fun e => hq (by rw [hd, e])]
  · rfl

theorem Work.zoneCool_eq {D : DrawerNo → Prop} {Z : ZoneNo → Prop} (h : Work D Z s t) (hz : ¬ Z (s.bayDesc b).zone) :
    zoneCool t b = zoneCool s b := by
  simp only [zoneCool, bayDesc_eq h.keeps.dl, h.critical hz]

/-- A sample of every drawer line raises a bay only if its drawer is home before or after. -/
theorem drawerSweep_raised (closed : BitVec 4) (hb : Rises s (forFour (sampleDrawer closed) s) b) :
    Raised (.drawerLineSample closed) s (forFour (sampleDrawer closed) s) b := by
  have work := fun q u => sampleDrawer_work (Z := fun _ => False) closed q u
  have keeps := forFour_keeps (fun q u => (work q u).keeps) s
  have fit : Fit (forFour (sampleDrawer closed) s) b :=
    forEach_keeps (P := fun u => Fit u b) _ (fun q _ u hu => (work q u).fit hu) s (fit_of_rest hb.1)
  have zone : zoneCool (forFour (sampleDrawer closed) s) b = zoneCool s b :=
    forEach_keeps (P := fun u => zoneCool u b = zoneCool s b) _ (fun q _ u hu => ((work q u).zoneCool_eq id).trans hu) s rfl
  have cool := forFour_risen (I := fun _ => True) (S := fun u => (u.bay b).state.held = some .spinup) (g := fun u => zoneCool u b)
    0 (fun _ _ _ => trivial) (fun q _ u _ => (work q u).zoneCool_eq id)
    (fun q u _ hu hq => by simpa [zoneCool] using ((work q u).home hu hq).2) trivial hb.1 hb.2
  have home : drawerHome s b = true ∨ drawerHome (forFour (sampleDrawer closed) s) b = true := by
    refine forFour_risen (I := fun u => u.dl = s.dl) (S := fun u => (u.bay b).state.held = some .spinup)
      (g := fun u => drawerHome u b) ((s.bayDesc b).drawer.getD 0) (fun q u hu => (work q u).keeps.dl.trans hu)
      (fun q hq u hu => (work q u).drawerHome_eq ?_) (fun q u _ hu hr => ((work q u).home hu hr).1) rfl hb.1 hb.2
    rw [bayDesc_eq hu]
    rintro e
    exact hq (by rw [e]; rfl)
  have coolNow : zoneCool (forFour (sampleDrawer closed) s) b = true := by
    rcases cool with e | e
    · exact zone.trans e
    · exact e
  simp only [zoneCool, bayDesc_eq keeps.dl, Bool.not_eq_true'] at coolNow
  exact ⟨home, fun hc => absurd rfl (hc closed), .inr coolNow, fun _ => coolNow, .inl (free_of_waits (keeps.bay b).waits hb),
    keeps.uptime, keeps.dl, (keeps.bay b).spun (spun_of_rest hb.1), fun _ => fit.1, fun _ _ => fit.2⟩

/-- Work of a temperature round: it leaves the drawers, and raises a bay only if its zone is not critical before or after. -/
structure Rounds (s t : State) : Prop extends Keeps s t where
  fit : ∀ b, Fit s b → Fit t b
  home : ∀ b, Rises s t b → drawerHome t b = true
  cool : ∀ b, Rises s t b → zoneCool s b = true ∨ zoneCool t b = true

theorem Same.rounds (h : Same s t) : Rounds s t :=
  ⟨h.keeps, fun _ => h.fit, fun b hb => absurd (h.held b ▸ hb.2) hb.1, fun b hb => absurd (h.held b ▸ hb.2) hb.1⟩

theorem Rounds.of_same (h : Same s t) (k : Rounds t u) : Rounds s u := by
  have rises : ∀ b, Rises s u b → Rises t u b := fun b hb => ⟨by rw [h.held]; exact hb.1, hb.2⟩
  have zone : ∀ b, zoneCool t b = zoneCool s b := fun b => by simp only [zoneCool, bayDesc_eq h.dl, h.critical]
  exact ⟨h.keeps.trans k.toKeeps, fun b hb => k.fit b (h.fit hb), fun b hb => k.home b (rises b hb),
    fun b hb => zone b ▸ k.cool b (rises b hb)⟩

theorem Rounds.raised (h : Rounds s t)
    (hc : c = .temperatureRoundStart ∨ c = .sensorReadTimeout ∨ ∃ o, c = .sensorReadComplete o) (hb : Rises s t b) :
    Raised c s t b := by
  have cool := h.cool b hb
  simp only [zoneCool, bayDesc_eq h.dl, Bool.not_eq_true'] at cool
  have fit := h.fit b (fit_of_rest hb.1)
  refine ⟨.inr (h.home b hb), fun _ => h.home b hb, cool, fun ⟨h1, h2, h3⟩ => ?_, .inl (free_of_waits (h.bay b).waits hb),
    h.uptime, h.dl, (h.bay b).spun (spun_of_rest hb.1), fun _ => fit.1, fun _ _ => fit.2⟩
  rcases hc with e | e | ⟨o, e⟩
  · exact absurd e h1
  · exact absurd e h2
  · exact absurd e (h3 o)

theorem zoneSweep_rounds (s : State) : Rounds s (forFour endRoundZone s) := by
  have work := fun q u => endRoundZone_work (D := fun _ => False) q u
  have keeps := forFour_keeps (fun q u => (work q u).keeps) s
  have drawer : ∀ b, drawerHome (forFour endRoundZone s) b = drawerHome s b := fun b =>
    Machine.drawerHome_eq keeps.dl (fun d => forEach_keeps (P := fun u => (u.drawer d).state = (s.drawer d).state) _
      (fun q _ u hu => ((work q u).drawer id).trans hu) s rfl) b
  refine ⟨keeps, fun b hb => forEach_keeps (P := fun u => Fit u b) _ (fun q _ u hu => (work q u).fit hu) s hb,
    fun b hb => ?home, fun b hb => ?cool⟩
  case home =>
    have home := forFour_risen (I := fun _ => True) (S := fun u => (u.bay b).state.held = some .spinup)
      (g := fun u => drawerHome u b) 0 (fun _ _ _ => trivial)
      (fun q _ u _ => Machine.drawerHome_eq (work q u).keeps.dl (fun d => (work q u).drawer id) b)
      (fun q u _ hu hq => ((work q u).home hu hq).1) trivial hb.1 hb.2
    rcases home with e | e
    · exact (drawer b).trans e
    · exact e
  case cool =>
    refine forFour_risen (I := fun u => u.dl = s.dl) (S := fun u => (u.bay b).state.held = some .spinup)
      (g := fun u => zoneCool u b) (s.bayDesc b).zone (fun q u hu => (work q u).keeps.dl.trans hu)
      (fun q hq u hu => (work q u).zoneCool_eq ?_) (fun q u _ hu hr => by simpa [zoneCool] using ((work q u).home hu hr).2) rfl
      hb.1 hb.2
    rw [bayDesc_eq hu]
    exact fun e => hq e.symm

theorem continueRound_rounds (n : Nat) (s : State) : Rounds s (continueRound n s) := by
  unfold continueRound
  split
  · exact (setReading_same _ s).rounds
  · exact .of_same (setReading_same none s) (zoneSweep_rounds _)

theorem Rounds.ite {p : Prop} [Decidable p] (h : p → Rounds s t) : Rounds s (if p then t else s) := by
  split
  · rename_i hp; exact h hp
  · exact (Same.refl s).rounds

theorem temperature_same (s : State) (n : Uptime) : Same s { s with tu := { s.tu with nextRound := n } } :=
  (Same.refl s).keep rfl rfl rfl rfl rfl rfl

theorem startRound_rounds (s : State) : Rounds s (startRound s) :=
  .of_same ((sampleReports_same s).forEach _ fun b u hu => hu.trans (handDriveTemp_same b u)) (continueRound_rounds 0 _)

theorem temperatureRoundStart_rounds (s : State) : ∃ t, exec .temperatureRoundStart s = .next t ∧ Rounds s t :=
  ⟨_, rfl, .ite fun _ => .of_same (temperature_same s _) (startRound_rounds _)⟩

theorem sensorReadComplete_rounds (o : ReadOutcome) (s : State) : ∃ t, exec (.sensorReadComplete o) s = .next t ∧ Rounds s t := by
  refine ⟨_, rfl, ?_⟩
  split
  · exact .ite fun _ => .of_same (readOutcome_same _ o s) (continueRound_rounds _ _)
  · exact (Same.refl s).rounds

theorem sensorReadTimeout_rounds (s : State) : ∃ t, exec .sensorReadTimeout s = .next t ∧ Rounds s t := by
  refine ⟨_, rfl, ?_⟩
  split
  · exact .ite fun _ => .of_same (failedRead_same _ _ s) (continueRound_rounds _ _)
  · exact (Same.refl s).rounds

theorem supplySample_steady (g : BitVec 2) (s : State) : Steady s (forEach (List.finRange 2) (sampleSupply g) s) :=
  forEach_relates _ (fun u => (Calm.refl u).toSteady) Steady.trans (fun n _ u => sampleSupply_steady g n u) s

theorem supplySample_raised (g : BitVec 2) (hb : Rises s (forEach (List.finRange 2) (sampleSupply g) s) b) :
    Raised c s (forEach (List.finRange 2) (sampleSupply g) s) b := by
  refine (supplySample_steady g s).raised hb (fun _ => ?_) fun _ hn => ?_
  · exact forEach_keeps (P := fun u => Drawn u b) _ (fun n _ u hu => sampleSupply_drawn g n u hu) s (fit_of_rest hb.1).1
  · rw [supplySample_eq] at hn ⊢
    exact (supplySample_settles hn b hb.1).2

end

end Sys2Proof.Machine
end

section
/-! SUPPORT. The commands of their own kind: the tick, the end of a stagger wait, the cooling period, the end of LOADING and the resets;
and with them the three invariants of power. -/

namespace Sys2Proof.Machine

section
variable {s t u : State} {b : BayNo} {c : Instr}

/-- What a command keeps of the queue and the books. -/
structure Upholds (s t : State) : Prop where
  queue : queueAgrees s → queueAgrees t
  books : drawsBooked s ∧ overLimitAgrees s → drawsBooked t ∧ overLimitAgrees t

theorem phase_eq (h : t.dl = s.dl) : t.phase = s.phase := by simp [State.phase, h]

theorem fanCharges_eq (hd : t.dl = s.dl) (hf : ∀ f, (t.fan f).charge = (s.fan f).charge) : fanCharges t = fanCharges s := by
  funext r
  simp only [fanCharges, fanDesc_eq hd, hf]

theorem Keeps.upholds (h : Keeps s t) : Upholds s t := by
  refine ⟨fun hq => ?_, fun hb => (books_iff t).mpr fun hp => ?_⟩
  · rw [queueAgrees_iff] at hq ⊢
    exact ⟨h.sorted hq.1, fun b => (h.bay b).placed (hq.2 b)⟩
  · obtain ⟨booked, due⟩ := (books_iff s).mp hb (by rw [← phase_eq h.dl]; exact hp)
    rw [fanCharges_eq h.dl h.fans]
    exact ⟨h.booked _ booked, fun b => (h.bay b).due (due b)⟩

theorem Upholds.trans (h : Upholds s t) (k : Upholds t u) : Upholds s u := ⟨k.queue ∘ h.queue, k.books ∘ h.books⟩

theorem Upholds.refl (s : State) : Upholds s s := ⟨id, id⟩

/-! ### The tick -/

theorem tick_upholds (s : State) : ∃ t, exec .uptimeTick s = .next t ∧ Upholds s t ∧ ∀ b, ¬ Rises s t b := by
  refine ⟨_, rfl, ?_⟩
  split
  · exact ⟨.refl s, fun b hb => hb.1 hb.2⟩
  · have raised : Upholds s { s with uptime := s.uptime + 1 } := ⟨id, id⟩
    have k := publishes_rewriteLive { s with uptime := s.uptime + 1 }
    exact ⟨raised.trans k.still.keeps.upholds, fun b hb => hb.1 (by rw [← hb.2, k.bay]; rfl)⟩

/-! ### The end of a stagger wait (R43) -/

/-- A rail's stagger wait over, and its record. -/
def staggerOver (r : RailNo) (s : State) : State := publishRail r (s.setRail r { s.rail r with stagger := false })

theorem staggerOver_publishes (r : RailNo) (s : State) :
    Publishes (s.setRail r { s.rail r with stagger := false }) (staggerOver r s) := publishes_publishRail r _

theorem clearStagger_upholds (r : RailNo) (s : State) : Upholds s (s.setRail r { s.rail r with stagger := false }) := by
  refine ⟨id, fun hb => (books_iff _).mpr fun hp => ?_⟩
  obtain ⟨⟨parts, agrees⟩, due⟩ := (books_iff s).mp hb hp
  refine ⟨⟨parts.setRail rfl rfl, fun q => ?_⟩, due⟩
  have h := agrees q
  rw [OverAgrees, committed, State.rail_setRail]
  split
  · rename_i hq; subst hq; exact h
  · exact h

theorem staggerOver_rises (r : RailNo) (s : State) (b : BayNo) : (staggerOver r s).bay b = s.bay b := (staggerOver_publishes r s).bay b

theorem staggerEnd_upholds (r : RailNo) (s : State) :
    ∃ t, exec (.staggerEnd r) s = .next t ∧ Upholds s t ∧ ∀ b, Rises s t b → Raised (.staggerEnd r) s t b := by
  refine ⟨_, rfl, ?_⟩
  split
  case isFalse => exact ⟨.refl s, fun b hb => absurd hb.2 hb.1⟩
  case isTrue =>
    have ended := staggerOver_publishes r s
    have calm : Calm (staggerOver r s) (examineRail r (staggerOver r s)) := examineRail_calm r _
    refine ⟨((clearStagger_upholds r s).trans ended.still.keeps.upholds).trans calm.upholds, fun b hb => ?_⟩
    have dl : (staggerOver r s).dl = s.dl := ended.dl
    have rises : Rises (staggerOver r s) (examineRail r (staggerOver r s)) b :=
      ⟨by rw [staggerOver_rises]; exact hb.1, hb.2⟩
    have raised : Raised (.staggerEnd r) (staggerOver r s) (examineRail r (staggerOver r s)) b := calm.handled.raised rises
    have home := (calm.home b (home_of_rest rises.1)) hb.2
    have fit := calm.fit (fit_of_rest rises.1)
    have free : (s.rail (railOf s b)).stagger = false ∨ Instr.staggerEnd r = .staggerEnd (railOf s b) := by
      by_cases hr : r = railOf s b
      · exact .inr (by rw [← hr])
      · refine .inl ?_
        have e := free_of_waits (calm.bay b).waits rises
        rwa [railOf_eq dl, ended.rail, State.rail_setRail_ne s hr] at e
    rw [bayDesc_eq (calm.dl.trans dl)] at home
    exact ⟨.inr home.1, fun _ => home.1, .inr home.2, fun _ => home.2, free, calm.uptime.trans ended.uptime, calm.dl.trans dl,
      raised.spun, fun _ => fit.1, fun _ _ => fit.2⟩

/-! ### The cooling period (R85) -/

theorem coolingPeriod_upholds (s : State) : Upholds s (coolingPeriod s) := by
  obtain ⟨v, calm, fans, parts⟩ := coolingPeriod_cases s
  have formed := dutiesFormed_same s
  have booked := fansBooked_refans (dutiesFormed s)
  have dl : (coolingPeriod s).dl = (dutiesFormed s).dl := (fans.dl.trans calm.dl).trans booked.dl
  refine ⟨fun hq => ?queue, fun hb => (books_iff _).mpr fun hp => ?books⟩
  case queue =>
    have h := formed.keeps.upholds.queue hq
    rw [queueAgrees_iff] at h ⊢
    have sorted : Sorted (fansBooked (dutiesFormed s)) := by rw [Sorted, booked.queue]; exact h.1
    have placed : ∀ b, Placed (fansBooked (dutiesFormed s)) b := fun b => by rw [Placed, booked.queue, booked.bay]; exact h.2 b
    exact ⟨fans.sorted (calm.sorted sorted), fun b => fans.placed ((calm.bay b).placed (placed b))⟩
  case books =>
    obtain ⟨hbooked, hdue⟩ := (books_iff _).mp (formed.keeps.upholds.books hb) (by rw [← phase_eq dl]; exact hp)
    have due : ∀ b, Due (fansBooked (dutiesFormed s)) b := fun b => by
      rw [Due, State.charge, booked.charges, booked.bay]; exact hdue b
    rw [funext parts]
    exact ⟨fans.booked (calm.booked _ (fansBooked_booked hbooked)), fun b => fans.due ((calm.bay b).due (due b))⟩

theorem coolingPeriod_raised (hb : Rises s (coolingPeriod s) b) : Raised c s (coolingPeriod s) b := by
  obtain ⟨v, calm, fans, -⟩ := coolingPeriod_cases s
  have formed := dutiesFormed_same s
  have booked := fansBooked_refans (dutiesFormed s)
  have dl : (fansBooked (dutiesFormed s)).dl = s.dl := booked.dl.trans formed.dl
  have rises : Rises (fansBooked (dutiesFormed s)) v b := ⟨by rw [booked.bay, formed.held]; exact hb.1, by rw [← fans.held]; exact hb.2⟩
  have home := calm.home b (home_of_rest rises.1) rises.2
  rw [← Machine.drawerHome_eq fans.dl fans.drawer, bayDesc_eq (calm.dl.trans dl), ← fans.critical] at home
  have fit := fans.fit (calm.fit (fit_of_rest rises.1))
  have free := free_of_waits (calm.bay b).waits rises
  rw [railOf_eq dl, booked.rail, formed.rail] at free
  exact ⟨.inr home.1, fun _ => home.1, .inr home.2, fun _ => home.2, .inl free,
    ((fans.uptime.trans calm.uptime).trans booked.uptime).trans formed.uptime, (fans.dl.trans calm.dl).trans dl,
    fans.spun ((calm.bay b).spun (spun_of_rest rises.1)), fun _ => fit.1, fun _ _ => fit.2⟩

/-- What a raised bay shows does not go by the cooling controller. -/
theorem Raised.of_cooling {v : CoolingController} (h : Raised c { s with cc := v } t b) : Raised c s t b :=
  ⟨h.home, h.homeNow, h.cool, h.coolNow, h.free, h.uptime, h.dl, h.spun, h.drawn, h.roomy⟩

theorem setNextPeriod_same (s : State) (n : Uptime) : Same s { s with cc := { s.cc with nextPeriod := n } } := cooling_same s _

theorem execCoolingPeriod_upholds (s : State) :
    ∃ t, exec .coolingPeriod s = .next t ∧ Upholds s t ∧ ∀ b, Rises s t b → Raised .coolingPeriod s t b := by
  refine ⟨_, rfl, ?_⟩
  split
  case isFalse => exact ⟨.refl s, fun b hb => absurd hb.2 hb.1⟩
  case isTrue =>
    have k := setNextPeriod_same s (uptimeAfter s.cc.nextPeriod Config.coolingInterval)
    exact ⟨k.keeps.upholds.trans (coolingPeriod_upholds _),
      fun b hb => (coolingPeriod_raised ⟨by rw [k.held]; exact hb.1, hb.2⟩).of_cooling⟩

/-! ### The end of LOADING and the resets (R183 to R187) -/

theorem queueAgrees_of_empty (hq : t.ps.queue = []) (h : ∀ b, (t.bay b).state.held ≠ some .queued) : queueAgrees t := by
  rw [queueAgrees_iff]
  refine ⟨by rw [Sorted, hq]; exact List.Pairwise.nil, fun b => ?_⟩
  rw [Placed, hq, if_neg (h b)]
  rfl

/-- The end of LOADING leaves the queue and the books in agreement, whatever stood before. -/
theorem endLoading_upholds (image : List Byte) (f : ScanFrame) (closed : BitVec 4) (good : BitVec 2) (s : State) :
    Upholds s (endLoading image f closed good s) := by
  obtain ⟨a, u, rfl, unqueued, agrees, loaded⟩ := endLoading_cases image f closed good s
  have calm := startPresence_calm f u
  rw [← loaded] at calm
  have queue : queueAgrees u := queueAgrees_of_empty (unqueued.queue rfl) fun b => by
    rw [unqueued.bay, applyDescription_bay]; exact (startBay_held _ _ f b).1
  have books : drawsBooked u ∧ overLimitAgrees u := (books_iff u).mpr fun _ => by
    refine ⟨⟨?_, agrees⟩, fun b => ?_⟩
    · rw [fanCharges_eq unqueued.dl unqueued.fans]
      exact unqueued.parts _ rfl (applyDescription_parts _ _ _ _ _)
    · rw [Due, unqueued.charge, unqueued.bay]
      exact applyDescription_due _ _ _ _ _ b
  exact ⟨fun _ => calm.upholds.queue queue, fun _ => calm.upholds.books books⟩

theorem Cleared.upholds (h : Cleared t) : Upholds s t :=
  ⟨fun _ => queueAgrees_of_empty h.queue fun b => by rw [h.bay]; simp [BayState.held],
    fun _ => (books_iff t).mpr fun hp => absurd hp h.phase⟩

/-! ### Every command -/

/-- Each command keeps the queue and the books, and raises bays only as R42 admits them. -/
theorem exec_cases (c : Instr) (s : State) : ∃ t, exec c s = .next t ∧ Upholds s t ∧ ∀ b, Rises s t b → Raised c s t b := by
  have rest : ∀ {t : State} {b : BayNo}, (t.bay b).state.held ≠ some .spinup → Rises s t b → Raised c s t b :=
    fun h hb => absurd hb.2 h
  have none : Upholds s s ∧ ∀ b, Rises s s b → Raised c s s b := ⟨.refl s, fun b hb => absurd hb.2 hb.1⟩
  by_cases hp : isPlain c = true
  · obtain ⟨t, e, h⟩ := exec_handled hp s
    exact ⟨t, e, h.steady.upholds, fun b hb => h.raised hb⟩
  by_cases ho : c.isOrder = true
  · obtain ⟨x, n, k, bytes, e⟩ := exec_order ho
    have steady := commandOrder_steady x n k bytes s
    have fit := fun (h : c.isOrder = true → s.pa.post = 0 ∧ s.pb.post = 0) =>
      commandOrder_settles x n k bytes s (h ho).1 (h ho).2
    exact ⟨_, e s, steady.upholds, fun b hb => steady.raised hb (fun h => (fit h b hb.1).1) fun h _ => (fit h b hb.1).2⟩
  cases c with
  | powerOnReset =>
    exact ⟨_, rfl, (powerOnReset_cleared s).upholds, fun b => rest (by rw [(powerOnReset_cleared s).bay]; simp [BayState.held])⟩
  | pinReset => exact ⟨_, rfl, (pinReset_cleared s).upholds, fun b => rest (by rw [(pinReset_cleared s).bay]; simp [BayState.held])⟩
  | resetNGoesLow =>
    exact ⟨_, rfl, (holdReset_cleared s).upholds, fun b => rest (by rw [(holdReset_cleared s).bay]; simp [BayState.held])⟩
  | endOfLoading image f closed good =>
    refine ⟨_, rfl, ?_⟩
    split
    · exact ⟨endLoading_upholds image f closed good s, fun b => rest (endLoading_rest image f closed good s b)⟩
    · exact none
  | uptimeTick =>
    obtain ⟨t, e, h, hb⟩ := tick_upholds s
    exact ⟨t, e, h, fun b k => absurd k (hb b)⟩
  | drawerLineSample closed =>
    refine ⟨_, rfl, ?_⟩
    split
    · exact ⟨(forFour_keeps (fun q u => (sampleDrawer_work (Z := fun _ => False) closed q u).keeps) s).upholds,
        fun b => drawerSweep_raised closed⟩
    · exact none
  | drawerDebounceEnd d =>
    refine ⟨_, rfl, ?_⟩
    split
    · have work := changeDrawerLine_work (Z := fun _ => False) d s
      exact ⟨work.keeps.upholds, fun b => work.raised⟩
    · exact none
  | settleTimerEnd d =>
    refine ⟨_, rfl, ?_⟩
    split
    · have work := closeDrawer_work (Z := fun _ => False) d s
      exact ⟨work.keeps.upholds, fun b => work.raised⟩
    · exact none
  | supplyLineSample g =>
    refine ⟨_, rfl, ?_⟩
    split
    · exact none
    · exact ⟨(supplySample_steady g s).upholds, fun b => supplySample_raised g⟩
  | staggerEnd r => exact staggerEnd_upholds r s
  | temperatureRoundStart =>
    obtain ⟨t, e, h⟩ := temperatureRoundStart_rounds s
    exact ⟨t, e, h.upholds, fun b => h.raised (.inl rfl)⟩
  | sensorReadComplete o =>
    obtain ⟨t, e, h⟩ := sensorReadComplete_rounds o s
    exact ⟨t, e, h.upholds, fun b => h.raised (.inr (.inr ⟨o, rfl⟩))⟩
  | sensorReadTimeout =>
    obtain ⟨t, e, h⟩ := sensorReadTimeout_rounds s
    exact ⟨t, e, h.upholds, fun b => h.raised (.inr (.inl rfl))⟩
  | coolingPeriod => exact execCoolingPeriod_upholds s
  | _ => simp [isPlain, Instr.isOrder] at hp ho

theorem exec_upholds (h : exec c s = .next t) : Upholds s t := by
  obtain ⟨u, e, k, -⟩ := exec_cases c s
  obtain rfl := Host.Outcome.next.inj (h.symm.trans e)
  exact k

theorem exec_raised (h : exec c s = .next t) (hb : Rises s t b) : Raised c s t b := by
  obtain ⟨u, e, -, k⟩ := exec_cases c s
  obtain rfl := Host.Outcome.next.inj (h.symm.trans e)
  exact k b hb

theorem step_upholds (h : step s = .next t) : Upholds s t := by
  unfold step at h
  split at h
  · obtain rfl := Host.Outcome.next.inj h
    exact .refl s
  · exact ⟨fun hs => (exec_upholds h).queue hs, fun hs => (exec_upholds h).books hs⟩

/-- Settles O7: every command keeps the order of the queue and the place of every bay in it, bay by bay. -/
theorem everyStepKeepsTheQueueInAgreement : Obligations.EveryStepKeepsTheQueueInAgreement :=
  fun _ _ hs h => (step_upholds h).queue hs

/-- Settles O11: every command keeps the two sums of each rail and the charge of each bay, and ends with OVER_LIMIT evaluated on what
it changed; the cooling period books its fans first, and the end of LOADING makes the books anew. -/
theorem everyStepKeepsTheBooksAndOverLimit : Obligations.EveryStepKeepsTheBooksAndOverLimit :=
  fun _ _ draws limits h => (step_upholds h).books ⟨draws, limits⟩

/-- Settles O31: the bays that a command raises are those an examination admitted, and what the command does after that admission
keeps their drawer, zone, rail and draws, but for the sweeps over several lines and the orders before its own. -/
theorem admissionNeedsEveryCondition : Obligations.AdmissionNeedsEveryCondition := by
  intro c b s t h hs ht
  have held : (t.bay b).state.held = some .spinup := by rw [ht]; rfl
  have k := exec_raised h ⟨by rw [hs]; simp [BayState.held], held⟩
  obtain ⟨switch, charge, surgeEnd, switchOn, last, stagger⟩ := k.spun held
  rw [k.uptime] at surgeEnd switchOn last
  rw [railOf_eq k.dl] at last stagger
  rw [railDesc_eq k.dl] at stagger
  refine ⟨k.home, k.homeNow, k.cool, k.coolNow, k.free, switch, charge, surgeEnd, switchOn, last, stagger, fun alone => ?_⟩
  obtain ⟨surge, time, running⟩ := k.drawn alone held
  refine ⟨surge, time, running, fun lines => ?_⟩
  have room := k.roomy alone lines held
  rwa [railOf_eq k.dl] at room

end

end Sys2Proof.Machine
end

section
/-! SUPPORT. What an operation leaves of the exchange memory: runs that stay untouched, the records and the event list (R167, R171 to
R174). -/

namespace Sys2Proof.Machine

section
variable {s t u : State} {gs hs : List Region} {g : Region}

/-! ### Untouched runs -/

theorem Region.has_eq_false {g : Region} {a : Nat} : g.has a = false ↔ a < g.1 ∨ g.1 + g.2 ≤ a := by
  simp only [Region.has, decide_eq_false_iff_not]
  omega

/-- Every address of a run lies in one of the runs listed. -/
def Covers (gs : List Region) (g : Region) : Prop := ∀ a, (∀ h ∈ gs, h.has a = false) → g.has a = false

theorem Covers.of_mem (h : g ∈ gs) : Covers gs g := fun _ ha => ha g h

theorem Covers.of_within {h : Region} (hm : h ∈ gs) (lo : h.1 ≤ g.1) (hi : g.1 + g.2 ≤ h.1 + h.2) : Covers gs g := by
  intro a ha
  have k := ha h hm
  rw [Region.has_eq_false] at k ⊢
  omega

theorem untouched.refl (s : State) (gs : List Region) : untouched s s gs := fun _ _ => rfl

theorem untouched.trans (h : untouched s t gs) (k : untouched t u gs) : untouched s u gs :=
  fun a ha => (k a ha).trans (h a ha)

theorem untouched.mono (h : untouched s t hs) (c : ∀ g ∈ hs, Covers gs g) : untouched s t gs :=
  fun a ha => h a fun g hg => c g hg a ha

theorem untouched_of_xm (h : t.xm = s.xm) (gs : List Region) : untouched s t gs := fun a _ => by rw [h]

theorem untouched_write {a : Nat} {bs : List Byte} (h : t.xm = Memory.write s.xm a bs) (c : Covers gs (a, bs.length)) :
    untouched s t gs := by
  intro k hk
  have out := c k hk
  rw [Region.has_eq_false] at out
  rw [h]
  exact Memory.read_write_outside (by omega)

theorem untouched_store (s : State) {a : Nat} {bs : List Byte} (c : Covers gs (a, bs.length)) : untouched s (s.store a bs) gs :=
  untouched_write rfl c

/-- Two runs that share no address. -/
def Apart (g h : Region) : Prop := g.1 + g.2 ≤ h.1 ∨ h.1 + h.2 ≤ g.1

/-- A run apart from all that may have been touched reads as before. -/
theorem untouched.readRun (h : untouched s t gs) {a n : Nat} (apart : ∀ g ∈ gs, Apart g (a, n)) :
    Memory.readRun t.xm a n = Memory.readRun s.xm a n := by
  refine List.map_congr_left fun i hi => h _ fun g hg => ?_
  have k := apart g hg
  have hi := List.mem_range.mp hi
  simp only [Apart, Region.has_eq_false] at k ⊢
  omega

/-! ### Rewrites of records -/

/-- Rewrites of records and their notices, within the runs listed, and no event. -/
structure Rewrites (gs : List Region) (s t : State) : Prop where
  same : t = { s with xm := t.xm, pa := t.pa, pb := t.pb }
  pa : Notified s.pa t.pa
  pb : Notified s.pb t.pb
  touched : untouched s t gs

theorem Rewrites.refl (gs : List Region) (s : State) : Rewrites gs s s := ⟨rfl, .refl _, .refl _, .refl s gs⟩

theorem Rewrites.trans (h : Rewrites gs s t) (k : Rewrites gs t u) : Rewrites gs s u :=
  ⟨by rw [k.same, h.same], h.pa.trans k.pa, h.pb.trans k.pb, h.touched.trans k.touched⟩

theorem Rewrites.mono (h : Rewrites hs s t) (c : ∀ g ∈ hs, Covers gs g) : Rewrites gs s t :=
  ⟨h.same, h.pa, h.pb, h.touched.mono c⟩

/-- One rewrite with a notice on both ports. -/
theorem rewrites_putRecord (base : Nat) (body : List Byte) {bits : Word} (h : bits &&& ~~~noticeMask = 0) (s : State)
    (c : Covers gs (base, body.length + 2)) : Rewrites gs s (noticeBoth bits (putRecord base body s)) :=
  ⟨rfl, (publishes_noticeBoth bits h (putRecord base body s)).pa, (publishes_noticeBoth bits h (putRecord base body s)).pb,
    (untouched_putRecord base body s).mono fun g hg => by rw [List.mem_singleton.mp hg]; exact c⟩

theorem bayBody_length (s : State) (b : BayNo) : (bayBody s b).length = 30 := by simp [bayBody]
theorem railBody_length (s : State) (r : RailNo) : (railBody s r).length = 62 := by simp [railBody, zeros]
theorem queueBody_length (s : State) : (queueBody s).length = 98 := by simp [queueBody]
theorem profileBody_length (s : State) : (profileBody s).length = 48 := by
  simp [profileBody, profileBytes, List.length_flatMap]
theorem liveBody_length (s : State) : (liveBody s).length = 7 := by simp [liveBody]

theorem publishBay_rewrites (b : BayNo) (s : State) (c : Covers gs (bayRegion b)) : Rewrites gs s (publishBay b s) := by
  unfold publishBay
  split
  · exact rewrites_putRecord _ _ noticeBays_legal s (by rw [bayBody_length]; exact c)
  · exact .refl gs s

theorem rewriteRail_rewrites (r : RailNo) (s : State) (c : Covers gs (railRegion r)) : Rewrites gs s (rewriteRail r s) :=
  rewrites_putRecord _ _ noticePower_legal s (by rw [railBody_length]; exact c)

theorem publishRail_rewrites (r : RailNo) (s : State) (c : Covers gs (railRegion r)) : Rewrites gs s (publishRail r s) := by
  unfold publishRail
  split
  · exact rewriteRail_rewrites r s c
  · exact .refl gs s

theorem rewriteQueue_rewrites (s : State) (c : Covers gs queueRegion) : Rewrites gs s (rewriteQueue s) := by
  refine rewrites_putRecord _ _ noticeBays_legal s ?_
  rw [queueBody_length]
  exact fun a ha => by
    have k := c a ha
    simp only [queueRegion, Region.has_eq_false] at k ⊢
    omega

section
variable (h : Rewrites gs s t)
include h

theorem Rewrites.uptime : t.uptime = s.uptime := by rw [h.same]
theorem Rewrites.dl : t.dl = s.dl := by rw [h.same]
theorem Rewrites.bc : t.bc = s.bc := by rw [h.same]
theorem Rewrites.ps : t.ps = s.ps := by rw [h.same]
theorem Rewrites.oi : t.oi = s.oi := by rw [h.same]
theorem Rewrites.ew : t.ew = s.ew := by rw [h.same]
theorem Rewrites.rail (r : RailNo) : t.rail r = s.rail r := by rw [State.rail, h.ps]; rfl
theorem Rewrites.bay (b : BayNo) : t.bay b = s.bay b := by rw [State.bay, h.bc]; rfl
end

/-! ### Events -/

theorem eventIndex_lt (q : BitVec 32) : eventIndex q < 256 := Nat.mod_lt _ (by decide)

theorem eventEntry_length (q : BitVec 32) (v : Uptime) {e : Event} (he : e.detail.length = 4) : (eventEntry q v e).length = 16 := by
  simp [eventEntry, he]

/-- The header of the event list and the entry, written. -/
theorem logEvent_xm (e : Event) (s : State) :
    ∃ head : List Byte, head.length = 8 ∧
      (logEvent e s).xm = Memory.write
        (Memory.write s.xm (eventListBase + 16 * eventIndex (nextSequence s.ew.latest))
          (eventEntry (nextSequence s.ew.latest) s.uptime e))
        eventHeaderBase head :=
  ⟨_, by simp, rfl⟩

theorem logEvent_untouched {e : Event} (he : e.detail.length = 4) (s : State) :
    untouched s (logEvent e s) [eventRegion s.ew.latest, eventHeaderRegion] := by
  obtain ⟨head, hl, e1⟩ := logEvent_xm e s
  intro a ha
  have h1 := ha (eventRegion s.ew.latest) (by simp)
  have h2 := ha eventHeaderRegion (by simp)
  simp only [eventRegion, eventHeaderRegion, Region.has_eq_false] at h1 h2
  rw [e1, Memory.read_write_outside (by rw [hl]; exact h2),
    Memory.read_write_outside (by rw [eventEntry_length _ _ he]; exact h1)]

theorem logEvent_touches {e : Event} (he : e.detail.length = 4) (s : State) (c1 : Covers gs (eventRegion s.ew.latest))
    (c2 : Covers gs eventHeaderRegion) : untouched s (logEvent e s) gs := by
  refine (logEvent_untouched he s).mono fun g hg => ?_
  rcases List.mem_cons.mp hg with rfl | hg
  · exact c1
  · rw [List.mem_singleton.mp hg]; exact c2

theorem covers_eventRegion (h : eventArea ∈ gs) (q : BitVec 32) : Covers gs (eventRegion q) := by
  have lt := eventIndex_lt (nextSequence q)
  exact .of_within h (by simp [eventArea, eventRegion, eventListBase]) (by simp [eventArea, eventRegion, eventListBase]; omega)

theorem covers_bayRegion (h : bayArea ∈ gs) (b : BayNo) : Covers gs (bayRegion b) := by
  have lt := b.isLt
  exact .of_within h (by simp [bayArea, bayRegion, bayBase]) (by simp [bayArea, bayRegion, bayBase]; omega)

theorem logEvent_logged {e : Event} (he : e.detail.length = 4) (s : State) : eventLogged s (logEvent e s) e := by
  obtain ⟨head, hl, e1⟩ := logEvent_xm e s
  refine ⟨rfl, ?_⟩
  have same := Memory.readRun_write_same s.xm (eventListBase + 16 * eventIndex (nextSequence s.ew.latest))
    (eventEntry (nextSequence s.ew.latest) s.uptime e)
  rw [eventEntry_length _ _ he] at same
  have place : (logEvent e s).ew.latest = nextSequence s.ew.latest := rfl
  rw [place, e1, Memory.readRun_write_disjoint, same]
  exact .inr (by rw [hl]; simp [eventHeaderBase, eventListBase]; omega)

/-- An event in the list stays there through rewrites of records apart from the list. -/
theorem eventLogged.rewrites {e : Event} (h : eventLogged s t e) (k : Rewrites gs t u) (apart : ∀ g ∈ gs, Apart g eventArea) :
    eventLogged s u e := by
  obtain ⟨h1, h2⟩ := h
  refine ⟨by rw [k.ew]; exact h1, ?_⟩
  rw [k.ew, ← h2]
  refine k.touched.readRun fun g hg => ?_
  have a := apart g hg
  have lt := eventIndex_lt t.ew.latest
  simp only [Apart, eventArea, eventListBase] at a ⊢
  omega

theorem railRegion_apart (r : RailNo) : Apart (railRegion r) eventArea := by
  have lt := r.isLt
  exact .inl (by simp [railRegion, railBase, eventArea]; omega)

theorem bayRegion_apart (b : BayNo) : Apart (bayRegion b) eventArea := by
  have lt := b.isLt
  exact .inl (by simp [bayRegion, bayBase, eventArea]; omega)

end

end Sys2Proof.Machine
end

section
/-! SUPPORT. The whole frame of work in the power sequencer: what may differ after it, which runs of the exchange memory it may touch,
how each bay stands, and how an examined rail stands (R39 to R43). -/

namespace Sys2Proof.Machine

section
variable {s t u : State} {gs hs : List Region} {b : BayNo} {r q : RailNo}

/-! ### Frames -/

theorem Notified.only {p q : PortUnit} (h : Notified p q) : onlyNotified p q := ⟨h.same, h.grown⟩

theorem onlyNotified.trans {p q v : PortUnit} (h : onlyNotified p q) (k : onlyNotified q v) : onlyNotified p v :=
  ⟨by rw [k.1, h.1], by rw [← k.2, ← BitVec.or_assoc, h.2]⟩

theorem portsNotified.trans (h : portsNotified s t) (k : portsNotified t u) : portsNotified s u := ⟨h.1.trans k.1, h.2.trans k.2⟩

theorem onlyBaysAndPower.trans (h : onlyBaysAndPower s t) (k : onlyBaysAndPower t u) : onlyBaysAndPower s u :=
  ⟨by rw [k.1, h.1], h.2.trans k.2⟩

/-- A bay left or admitted by one change and then by another is left or admitted by both. -/
theorem leftOrAdmitted.trans (h : leftOrAdmitted s t b) (k : leftOrAdmitted t u b) : leftOrAdmitted s u b := by
  rcases h with ⟨h1, h2, h3⟩ | ⟨h1, h2, h3, h4⟩
  · rcases k with ⟨k1, k2, k3⟩ | ⟨k1, k2, k3, k4⟩
    · exact .inl ⟨k1.trans h1, k2.trans h2, k3.trans h3⟩
    · exact .inr ⟨by rw [← h1]; exact k1, k2, k3, k4⟩
  · rcases k with ⟨k1, -, k3⟩ | ⟨k1, -⟩
    · refine .inr ⟨h1, by rw [k1]; exact h2, by rw [k1]; exact h3, fun e he hb => ?_⟩
      have none : (t.ps.queue.filter fun e => decide (e.bay = b)) = [] :=
        List.filter_eq_nil_iff.mpr fun x hx => by simpa using h4 x hx
      have some : e ∈ u.ps.queue.filter fun e => decide (e.bay = b) := by simpa [hb] using he
      rw [k3, none] at some
      simp at some
    · rw [h2] at k1
      simp at k1

/-- Work of the power sequencer: its frame, the runs of the exchange memory it may touch, and every bay left or admitted. -/
structure PowerWork (gs : List Region) (s t : State) : Prop where
  frame : onlyBaysAndPower s t
  touched : untouched s t gs
  left : ∀ b, leftOrAdmitted s t b

/-- Such work that leaves every rail but r. -/
structure RailWork (gs : List Region) (r : RailNo) (s t : State) : Prop extends PowerWork gs s t where
  rail_ne : ∀ q, q ≠ r → t.rail q = s.rail q

theorem PowerWork.trans (h : PowerWork gs s t) (k : PowerWork gs t u) : PowerWork gs s u :=
  ⟨h.frame.trans k.frame, h.touched.trans k.touched, fun b => (h.left b).trans (k.left b)⟩

theorem RailWork.trans (h : RailWork gs r s t) (k : RailWork gs r t u) : RailWork gs r s u :=
  ⟨h.toPowerWork.trans k.toPowerWork, fun q hq => (k.rail_ne q hq).trans (h.rail_ne q hq)⟩

theorem PowerWork.mono (h : PowerWork hs s t) (c : ∀ g ∈ hs, Covers gs g) : PowerWork gs s t := ⟨h.frame, h.touched.mono c, h.left⟩

theorem RailWork.mono (h : RailWork hs r s t) (c : ∀ g ∈ hs, Covers gs g) : RailWork gs r s t :=
  ⟨h.toPowerWork.mono c, h.rail_ne⟩

theorem RailWork.onlyBaysAndRail (h : RailWork gs r s t) : onlyBaysAndRail r s t := ⟨h.frame, h.rail_ne⟩

theorem Publishes.railWork (h : Publishes s t) (k : untouched s t gs) : RailWork gs r s t :=
  ⟨⟨⟨by conv => lhs; rw [h.same]
        simp [h.bc, h.ps, h.oi], h.pa.only, h.pb.only⟩, k, fun b => .inl ⟨h.bay b, h.charge b, by rw [h.ps]⟩⟩, fun q _ => h.rail q⟩

theorem Rewrites.publishes (h : Rewrites gs s t) (wf : Memory.wf s.xm = true → Memory.wf t.xm = true) : Publishes s t :=
  ⟨by conv => lhs; rw [h.same]
      simp [h.ew], h.pa, h.pb, wf⟩

theorem setRail_railWork (gs : List Region) (s : State) (r : RailNo) (v : Rail) : RailWork gs r s (s.setRail r v) :=
  ⟨⟨⟨rfl, (Notified.refl _).only, (Notified.refl _).only⟩, .refl s gs, fun b => leftOrAdmitted_refl s b⟩,
    fun _ hq => State.rail_setRail_ne s (Ne.symm hq) v⟩

theorem RailWork.refl (gs : List Region) (r : RailNo) (s : State) : RailWork gs r s s := (Publishes.refl s).railWork (.refl s gs)

theorem Examines.railWork (h : Examines r s t) (k : untouched s t gs) : RailWork gs r s t := by
  have oi : t.oi = s.oi := by rw [h.same]
  have same : t = { s with
      bc := { s.bc with bays := t.bc.bays }
      ps := { s.ps with rails := t.ps.rails, charges := t.ps.charges, queue := t.ps.queue }
      oi := { s.oi with contexts := t.oi.contexts }
      ew := t.ew, xm := t.xm, pa := t.pa, pb := t.pb } := by
    rw [oi]; exact h.same
  exact ⟨⟨⟨same, h.pa.only, h.pb.only⟩, k, h.left⟩, h.rail_ne⟩

/-! ### The runs that an examination touches -/

theorem evaluateOverLimit_untouched (r : RailNo) (s : State) : untouched s (evaluateOverLimit r s) [eventHeaderRegion, eventArea] := by
  unfold evaluateOverLimit
  dsimp only
  split
  · exact .refl s _
  · exact (logEvent_touches (by simp [eventOverLimit]) (s.setRail r _) (covers_eventRegion (by simp) _) (.of_mem (by simp)))

/-- The runs that the admission of one bay touches. -/
def admissionRegions (r : RailNo) (b : BayNo) : List Region := [bayRegion b, railRegion r, queueRegion, eventHeaderRegion, eventArea]

theorem admitBay_untouched (r : RailNo) (b : BayNo) (s : State) : untouched s (admitBay r b s) (admissionRegions r b) := by
  have booked : untouched s (admissionBooked r b s) (admissionRegions r b) := untouched_of_xm rfl _
  have logged := booked.trans (logEvent_touches (gs := admissionRegions r b)
    (e := eventAdmitted b r ((admissionBooked r b s).bay b).priority (committed (admissionBooked r b s) r))
    (by simp [eventAdmitted]) _ (covers_eventRegion (by simp [admissionRegions]) _) (.of_mem (by simp [admissionRegions])))
  have evaluated := logged.trans ((evaluateOverLimit_untouched r _).mono fun g hg => .of_mem (by
    simp only [List.mem_cons, List.not_mem_nil, or_false] at hg
    rcases hg with rfl | rfl <;> simp [admissionRegions]))
  have queued := evaluated.trans (rewriteQueue_rewrites _ (.of_mem (by simp [admissionRegions]))).touched
  have railed := queued.trans (rewriteRail_rewrites r _ (.of_mem (by simp [admissionRegions]))).touched
  exact railed.trans (publishBay_rewrites b _ (.of_mem (by simp [admissionRegions]))).touched

theorem admissionRegions_covered (r : RailNo) (b : BayNo) : ∀ g ∈ admissionRegions r b, Covers (examinationRegions r) g := by
  intro g hg
  simp only [admissionRegions, List.mem_cons, List.not_mem_nil, or_false] at hg
  rcases hg with rfl | rfl | rfl | rfl | rfl
  · exact covers_bayRegion (by simp [examinationRegions]) b
  all_goals exact .of_mem (by simp [examinationRegions])

theorem setBlocked_untouched (gs : List Region) (r : RailNo) (v : Option BayNo) (s : State) : untouched s (setBlocked r v s) gs :=
  untouched_of_xm rfl gs

theorem blockedPublished_untouched (r : RailNo) (v : Option BayNo) (s : State) :
    untouched s (publishRail r (setBlocked r v s)) (examinationRegions r) :=
  (setBlocked_untouched _ r v s).trans (publishRail_rewrites r _ (.of_mem (by simp [examinationRegions]))).touched

theorem examineWith_untouched (fuel : Nat) (r : RailNo) (s : State) :
    untouched s (examineWith fuel r s) (examinationRegions r) := by
  induction fuel generalizing s with
  | zero => exact .refl s _
  | succ n ih =>
    unfold examineWith
    split
    · exact blockedPublished_untouched r none s
    · split
      · split
        · exact blockedPublished_untouched r none s
        · exact ((setBlocked_untouched _ r none s).trans
            ((admitBay_untouched r _ _).mono (admissionRegions_covered r _))).trans (ih _)
      · exact blockedPublished_untouched r _ s

/-- An examination is work on its own rail (R41). -/
theorem examineRail_railWork (r : RailNo) (s : State) : RailWork (examinationRegions r) r s (examineRail r s) :=
  (examineRail_examines r s).railWork (examineWith_untouched _ r s)

/-! ### The rail after an examination -/

/-- A rail, its candidate and its records stand the same after a change of the records, the orders and the ports alone. -/
theorem examined_of_eq (h1 : t.dl = s.dl) (h2 : t.bc = s.bc) (h3 : t.ps = s.ps) (h4 : t.tu = s.tu) (h : examined s r) : examined t r := by
  obtain ⟨⟩ := s
  obtain ⟨⟩ := t
  dsimp only at h1 h2 h3 h4
  subst h1 h2 h3 h4
  exact h

theorem Publishes.examined (k : Publishes s t) (h : Machine.examined s r) : Machine.examined t r := examined_of_eq k.dl k.bc k.ps k.tu h

theorem candidate_of_eq (h1 : t.dl = s.dl) (h2 : t.bc = s.bc) (h3 : t.ps.queue = s.ps.queue) (h4 : t.tu = s.tu) :
    candidate t r = candidate s r := by
  have same : ∀ k, eligible t k = eligible s k := fun k => by
    have home : drawerHome t k = drawerHome s k := drawerHome_eq h1 (fun d => by simp [State.drawer, h2]) k
    have bay : t.bay k = s.bay k := by simp [State.bay, h2]
    have sense : ∀ z, t.sense z = s.sense z := fun z => by simp [State.sense, h4]
    rw [eligible, eligible, home, bay, bayDesc_eq h1, sense]
  simp only [candidate, railOf_eq h1, h3, same]

/-- The bay that a rail that is not examined on would be blocked by: its candidate, if that does not fit (R39). -/
def blocker (s : State) (r : RailNo) : Option BayNo :=
  match candidate s r with
  | none => none
  | some e => if committed s r + (profileOf s e.bay).surge ≤ (s.rail r).admitLimit then none else some e.bay

theorem setBlocked_candidate (v : Option BayNo) (s : State) : candidate (setBlocked r v s) q = candidate s q := rfl

theorem examined_intro (none : candidate s r = none → (s.rail r).blocked = none)
    (held : ∀ e, candidate s r = some e → committed s r + (profileOf s e.bay).surge ≤ (s.rail r).admitLimit →
      (s.rail r).blocked = Option.none ∧ ((s.rail r).paused = true ∨ (s.rail r).stagger = true))
    (blocked : ∀ e, candidate s r = some e → ¬ committed s r + (profileOf s e.bay).surge ≤ (s.rail r).admitLimit →
      (s.rail r).blocked = some e.bay) : examined s r := by
  unfold examined
  split
  · rename_i hc; exact none hc
  · rename_i e hc
    split
    · rename_i hf; exact held e hc hf
    · rename_i hf; exact blocked e hc hf

theorem setBlocked_fits_iff (v : Option BayNo) (b : BayNo) :
    committed (setBlocked r v s) r + (profileOf (setBlocked r v s) b).surge ≤ ((setBlocked r v s).rail r).admitLimit ↔
      fits s r b = true := by
  rw [← setBlocked_fits r v s b, fits, decide_eq_true_eq]

/-- BLOCKED set as an examination without an admission sets it leaves its rail examined. -/
theorem setBlocked_examined {v : Option BayNo} (none : candidate s r = none → v = none)
    (held : ∀ e, candidate s r = some e → fits s r e.bay = true →
      v = Option.none ∧ ((s.rail r).paused = true ∨ (s.rail r).stagger = true))
    (blocked : ∀ e, candidate s r = some e → fits s r e.bay = false → v = some e.bay)
    (ht : t = publishRail r (setBlocked r v s)) : examined t r := by
  obtain ⟨u, hu⟩ : ∃ u, u = setBlocked r v s := ⟨_, rfl⟩
  have k : Publishes u t := by rw [ht, ← hu]; exact publishes_publishRail r u
  have fit : ∀ b, committed u r + (profileOf u b).surge ≤ (u.rail r).admitLimit ↔ fits s r b = true := fun b => by
    rw [hu]; exact setBlocked_fits_iff v b
  have cand : candidate u r = candidate s r := by rw [hu]; exact setBlocked_candidate v s
  have rail : u.rail r = { s.rail r with blocked := v } := by rw [hu]; exact setBlocked_rail r v s
  refine k.examined (examined_intro (fun hc => ?_) (fun e hc hf => ?_) fun e hc hf => ?_) <;> rw [cand] at hc <;> rw [rail]
  · exact none hc
  · exact held e hc ((fit e.bay).mp hf)
  · exact blocked e hc (by simpa using mt (fit e.bay).mpr hf)

/-- An examination with turns for more entries than the queue holds leaves its rail examined: it goes on only after an admission, which
takes an entry out. -/
theorem examineWith_examined {fuel : Nat} (h : s.ps.queue.length < fuel) (ht : t = examineWith fuel r s) : examined t r := by
  induction fuel generalizing s with
  | zero => exact absurd h (by omega)
  | succ n ih =>
    unfold examineWith at ht
    split at ht
    · rename_i hc
      exact setBlocked_examined (fun _ => rfl) (fun e he => absurd (hc.symm.trans he) (by simp))
        (fun e he => absurd (hc.symm.trans he) (by simp)) ht
    · rename_i e hc
      have only : ∀ x, candidate s r = some x → x = e := fun x hx => by simpa [hc] using hx.symm
      split at ht
      · rename_i hf
        split at ht
        · rename_i hw
          exact setBlocked_examined (fun _ => rfl) (fun _ _ _ => ⟨rfl, hw⟩) (fun x hx hn => by simp [only x hx, hf] at hn) ht
        · refine ih ?_ ht
          have mem := (candidate_spec hc).1
          have short : (withoutBay e.bay s.ps.queue).length < s.ps.queue.length :=
            List.length_filter_lt_length_iff_exists.mpr ⟨e, mem, by simp⟩
          rw [admitBay_queue]
          exact lt_of_lt_of_le short (Nat.le_of_lt_succ h)
      · rename_i hf
        exact setBlocked_examined (fun hx => by simp [hc] at hx) (fun x hx hn => absurd (only x hx ▸ hn) hf)
          (fun x hx _ => by rw [only x hx]) ht

/-- An examination leaves its rail examined (R41). -/
theorem examineRail_examined (ht : t = examineRail r s) : examined t r := examineWith_examined (Nat.lt_succ_self _) ht

end

end Sys2Proof.Machine
end

section
/-! SUPPORT. The ends of stagger waits and of pauses, and the crossings (R35, R39 to R43, R49, R50). -/

namespace Sys2Proof.Machine

section
variable {s t u : State} {gs hs : List Region} {b : BayNo} {r q : RailNo}

/-! ### Changes of one rail alone -/

/-- A change of rail r, of records within the runs listed and of the event list. -/
structure RailAlone (gs : List Region) (r : RailNo) (s t : State) : Prop where
  same : t = { s with ps := { s.ps with rails := t.ps.rails }, ew := t.ew, xm := t.xm, pa := t.pa, pb := t.pb }
  pa : Notified s.pa t.pa
  pb : Notified s.pb t.pb
  touched : untouched s t gs
  rail_ne : ∀ q, q ≠ r → t.rail q = s.rail q

theorem RailAlone.trans (h : RailAlone gs r s t) (k : RailAlone gs r t u) : RailAlone gs r s u :=
  ⟨by rw [k.same, h.same], h.pa.trans k.pa, h.pb.trans k.pb, h.touched.trans k.touched,
    fun q hq => (k.rail_ne q hq).trans (h.rail_ne q hq)⟩

theorem setRail_alone (gs : List Region) (s : State) (r : RailNo) (v : Rail) : RailAlone gs r s (s.setRail r v) :=
  ⟨rfl, .refl _, .refl _, .refl s gs, fun _ hq => State.rail_setRail_ne s (Ne.symm hq) v⟩

theorem Rewrites.alone (h : Rewrites gs s t) : RailAlone gs r s t :=
  ⟨by conv => lhs; rw [h.same]
      simp [h.ps, h.ew], h.pa, h.pb, h.touched, fun q _ => h.rail q⟩

theorem logEvent_alone {e : Event} (he : e.detail.length = 4) (s : State) (c1 : Covers gs (eventRegion s.ew.latest))
    (c2 : Covers gs eventHeaderRegion) : RailAlone gs r s (logEvent e s) :=
  ⟨rfl, (publishes_logEvent e s).pa, (publishes_logEvent e s).pb, logEvent_touches he s c1 c2, fun _ _ => rfl⟩

/-- Such a change without an event. -/
theorem RailAlone.quiet (h : RailAlone gs r s t) (he : t.ew = s.ew) :
    t = { s with ps := { s.ps with rails := t.ps.rails }, xm := t.xm, pa := t.pa, pb := t.pb } := by
  have k := h.same
  rw [he] at k
  exact k

theorem RailAlone.ports (h : RailAlone gs r s t) : portsNotified s t := ⟨h.pa.only, h.pb.only⟩

theorem RailAlone.candidate (h : RailAlone gs r s t) (q : RailNo) : candidate t q = candidate s q :=
  candidate_of_eq (by rw [h.same]) (by rw [h.same]) (by rw [h.same]) (by rw [h.same])

theorem RailAlone.profileOf (h : RailAlone gs r s t) (b : BayNo) : profileOf t b = profileOf s b := by
  rw [h.same]; rfl

theorem RailAlone.railWork (h : RailAlone gs r s t) : RailWork gs r s t := by
  have bays : t.bc = s.bc := by rw [h.same]
  have oi : t.oi = s.oi := by rw [h.same]
  have charges : t.ps.charges = s.ps.charges := by rw [h.same]
  have queue : t.ps.queue = s.ps.queue := by rw [h.same]
  refine ⟨⟨⟨?_, h.ports⟩, h.touched, fun b => .inl ⟨by simp [State.bay, bays], by simp [State.charge, charges], by rw [queue]⟩⟩,
    h.rail_ne⟩
  conv => lhs; rw [h.same]
  simp [bays, oi, charges, queue]

/-! ### An examination that admits no bay, or one -/

theorem examineWith_held {n : Nat} (h : ∀ e, candidate s r = some e → fits s r e.bay = true →
      (s.rail r).paused = true ∨ (s.rail r).stagger = true) :
    examineWith (n + 1) r s = publishRail r (setBlocked r (blocker s r) s) := by
  rw [examineWith, blocker]
  cases hc : candidate s r with
  | none => rfl
  | some e =>
    dsimp only
    by_cases hf : fits s r e.bay = true
    · rw [if_pos (of_decide_eq_true hf), if_pos hf, if_pos (h e hc hf)]
    · rw [if_neg fun k => hf (decide_eq_true k), if_neg hf]

theorem blocked_alone (r : RailNo) (v : Option BayNo) (s : State) : RailAlone [railRegion r] r s (publishRail r (setBlocked r v s)) :=
  (setRail_alone _ s r _).trans (publishRail_rewrites r _ (.of_mem (by simp))).alone

theorem blocked_ew (r : RailNo) (v : Option BayNo) (s : State) : (publishRail r (setBlocked r v s)).ew = s.ew :=
  (publishRail_rewrites (gs := [railRegion r]) r (setBlocked r v s) (.of_mem (by simp))).ew

theorem blocked_rail (r : RailNo) (v : Option BayNo) (s : State) :
    (publishRail r (setBlocked r v s)).rail r = { s.rail r with blocked := v } := by
  rw [(publishes_publishRail r _).rail, setBlocked_rail]

/-- An examination whose candidate fits, with nothing pausing the rail, admits it and goes on. -/
theorem examineRail_admits_first {e : QueueEntry} (hc : candidate s r = some e) (hf : fits s r e.bay = true)
    (hp : (s.rail r).paused = false) (hs : (s.rail r).stagger = false) :
    ∃ n, examineRail r s = examineWith (n + 1) r (admitBay r e.bay (setBlocked r none s)) := by
  have pos : 0 < s.ps.queue.length := List.length_pos_of_mem (candidate_spec hc).1
  refine ⟨s.ps.queue.length - 1, ?_⟩
  rw [Nat.sub_add_cancel pos, examineRail, examineWith, hc]
  dsimp only
  rw [if_pos hf, if_neg (by simp [hp, hs])]

/-- On a rail without a stagger time no examination begins a stagger wait (R43). -/
theorem examineWith_stagger {fuel : Nat} (hd : (s.railDesc r).stagger = 0) (hs : (s.rail r).stagger = false) :
    ((examineWith fuel r s).rail r).stagger = false := by
  induction fuel generalizing s with
  | zero => exact hs
  | succ n ih =>
    unfold examineWith
    split
    · rw [blocked_rail]; exact hs
    · rename_i e hc
      obtain ⟨-, hr, -⟩ := candidate_spec hc
      split
      · split
        · rw [blocked_rail]; exact hs
        · have dl := (admitBay_admits r e.bay (setBlocked r none s) hr (candidate_spec hc).2.2).quiet.dl
          refine ih (by rw [railDesc_eq dl]; exact hd) ?_
          rw [admitBay_rail (s := setBlocked r none s) hr, if_pos rfl, setBlocked_rail]
          simp only [admittedRail, hs, Bool.false_or, decide_eq_false_iff_not]
          exact Nat.not_lt.mpr (Nat.le_of_eq hd)
      · rw [blocked_rail]; exact hs

/-! ### The end of a stagger wait (R43) -/

theorem exec_staggerEnd (hp : s.phase = .running) (hs : (s.rail r).stagger = true)
    (hd : timerDue s.uptime (staggerEndAt s r) = true) : exec (.staggerEnd r) s = .next (examineRail r (staggerOver r s)) :=
  congrArg Host.Outcome.next (if_pos ⟨hp, hs, hd⟩)

theorem staggerOver_alone (r : RailNo) (s : State) : RailAlone [railRegion r] r s (staggerOver r s) :=
  (setRail_alone _ s r _).trans (publishRail_rewrites r _ (.of_mem (by simp))).alone

theorem staggerOver_rail (r : RailNo) (s : State) : (staggerOver r s).rail r = { s.rail r with stagger := false } := by
  rw [(staggerOver_publishes r s).rail, State.rail_setRail_same]

theorem staggerOver_ew (r : RailNo) (s : State) : (staggerOver r s).ew = s.ew :=
  (publishRail_rewrites (gs := [railRegion r]) r (s.setRail r { s.rail r with stagger := false }) (.of_mem (by simp))).ew

theorem staggerOver_committed (r : RailNo) (s : State) : committed (staggerOver r s) r = committed s r := by
  rw [committed, staggerOver_rail, railDesc_eq (staggerOver_publishes r s).dl]
  rfl

theorem staggerOver_fits (r : RailNo) (s : State) (b : BayNo) :
    fits (staggerOver r s) r b = true ↔ committed s r + (profileOf s b).surge ≤ (s.rail r).admitLimit := by
  rw [fits, decide_eq_true_eq, staggerOver_committed, (staggerOver_alone r s).profileOf, staggerOver_rail]

theorem staggerOver_blocker (r : RailNo) (s : State) : blocker (staggerOver r s) r = blocker s r := by
  rw [blocker, blocker, (staggerOver_alone r s).candidate, staggerOver_committed, staggerOver_rail]
  simp only [(staggerOver_alone r s).profileOf]

end

end Sys2Proof.Machine
end

section
/-! SUPPORT. The statement of the joins and of the ends of stagger waits (R35, R39 to R43). -/

namespace Sys2Proof.Machine

section
variable {s : State} {r : RailNo} {e : QueueEntry}

theorem admittedBay_spinup (v : Bay) (p : Profile) (u : Uptime) : (admittedBay v p u).state = .seated .spinup := rfl

/-- A bay that an examination admitted first stays as the admission left it, out of the queue, with its charge. -/
theorem examineWith_keeps_admitted {fuel : Nat} :
    ((examineWith fuel r (admitBay r e.bay s)).bay e.bay = admittedBay (s.bay e.bay) (profileOf s e.bay) s.uptime) ∧
    (examineWith fuel r (admitBay r e.bay s)).charge e.bay = (profileOf s e.bay).surge ∧
    ∀ x ∈ (examineWith fuel r (admitBay r e.bay s)).ps.queue, x.bay ≠ e.bay := by
  have bay : (admitBay r e.bay s).bay e.bay = admittedBay (s.bay e.bay) (profileOf s e.bay) s.uptime := by
    rw [admitBay_bay, if_pos rfl]
  have out : ((admitBay r e.bay s).bay e.bay).state ≠ .seated .queued := by rw [bay, admittedBay_spinup]; simp
  have k := examineWith_examines fuel r (admitBay r e.bay s)
  refine ⟨(k.toAdmits.bay_same out).trans bay, ?_, fun x hx => ?_⟩
  · rcases k.left e.bay with ⟨-, h, -⟩ | ⟨h, -⟩
    · rw [h, admitBay_charge, if_pos rfl]
    · exact absurd h out
  · have mem := k.queue.subset hx
    rw [admitBay_queue] at mem
    simpa using (List.mem_filter.mp mem).2

/-- The end of a stagger wait at which no bay is admitted: BLOCKED and the record (R39, R41). -/
theorem staggerEnd_held
    (hc : candidate s r = none ∨ ∃ e, candidate s r = some e ∧
      (committed s r + (profileOf s e.bay).surge ≤ (s.rail r).admitLimit → (s.rail r).paused = true)) :
    ∃ t, t = examineRail r (staggerOver r s) ∧ t.rail r = { s.rail r with stagger := false, blocked := blocker s r } ∧
      RailAlone [railRegion r] r s t ∧ t.ew = s.ew := by
  have ended := staggerOver_alone r s
  have held : ∀ e, candidate (staggerOver r s) r = some e → fits (staggerOver r s) r e.bay = true →
      ((staggerOver r s).rail r).paused = true ∨ ((staggerOver r s).rail r).stagger = true := by
    intro e he hf
    rw [ended.candidate] at he
    rw [staggerOver_fits] at hf
    rw [staggerOver_rail]
    rcases hc with h | ⟨x, h, hp⟩
    · simp [h] at he
    · obtain rfl : x = e := by simpa [h] using he
      exact .inl (hp hf)
  refine ⟨_, rfl, ?_⟩
  rw [examineRail, examineWith_held held]
  refine ⟨?_, ended.trans (blocked_alone r _ _), (blocked_ew r _ _).trans (staggerOver_ew r s)⟩
  rw [blocked_rail, staggerOver_rail, staggerOver_blocker]

/-- The first admission of the end of a stagger wait, and the examination that goes on after it. -/
theorem staggerEnd_first (hc : candidate s r = some e) (hp : (s.rail r).paused = false)
    (hf : committed s r + (profileOf s e.bay).surge ≤ (s.rail r).admitLimit) :
    ∃ n, examineRail r (staggerOver r s) = examineWith (n + 1) r (admitBay r e.bay (setBlocked r none (staggerOver r s))) :=
  examineRail_admits_first (by rw [(staggerOver_alone r s).candidate]; exact hc) ((staggerOver_fits r s e.bay).mpr hf)
    (by rw [staggerOver_rail]; exact hp) (by rw [staggerOver_rail])

/-- The state from which the end of a stagger wait admits its first bay. -/
def staggerClear (r : RailNo) (s : State) : State := setBlocked r none (staggerOver r s)

theorem staggerClear_alone (r : RailNo) (s : State) : RailAlone [railRegion r] r s (staggerClear r s) :=
  (staggerOver_alone r s).trans (setRail_alone _ _ r _)

theorem staggerClear_rail (r : RailNo) (s : State) : (staggerClear r s).rail r = { s.rail r with stagger := false, blocked := none } := by
  rw [staggerClear, setBlocked_rail, staggerOver_rail]

theorem RailAlone.bay {gs : List Region} {t : State} (h : RailAlone gs r s t) (b : BayNo) : t.bay b = s.bay b := by
  have e : t.bc = s.bc := by rw [h.same]
  simp [State.bay, e]

theorem RailAlone.charge {gs : List Region} {t : State} (h : RailAlone gs r s t) (b : BayNo) : t.charge b = s.charge b := by
  have e : t.ps.charges = s.ps.charges := by rw [h.same]
  simp [State.charge, e]

theorem RailAlone.dl {gs : List Region} {t : State} (h : RailAlone gs r s t) : t.dl = s.dl := by rw [h.same]
theorem RailAlone.uptime {gs : List Region} {t : State} (h : RailAlone gs r s t) : t.uptime = s.uptime := by rw [h.same]
theorem RailAlone.queue {gs : List Region} {t : State} (h : RailAlone gs r s t) : t.ps.queue = s.ps.queue := by rw [h.same]

theorem staggerEnd_work (r : RailNo) (s : State) : RailWork (examinationRegions r) r s (examineRail r (staggerOver r s)) :=
  ((staggerOver_alone r s).railWork.mono fun g hg => .of_mem (by simp_all [examinationRegions])).trans
    (examineRail_railWork r (staggerOver r s))

/-- At a stagger time above 0 the first admission of the end of a stagger wait is the only one: it begins the next wait (R43). -/
theorem staggerEnd_alone {n : Nat} (hr : railOf s e.bay = r) (hd : 0 < (s.railDesc r).stagger) :
    ∃ t, t = examineWith (n + 1) r (admitBay r e.bay (staggerClear r s)) ∧
      (∀ c : BayNo, c ≠ e.bay → t.bay c = s.bay c) ∧
      t.ps.queue = (s.ps.queue.filter fun x => decide (x.bay ≠ e.bay)) ∧ (t.rail r).stagger = true ∧
      (t.rail r).bayPart = (s.rail r).bayPart + (profileOf s e.bay).surge - s.charge e.bay ∧
      untouched s t [bayRegion e.bay, railRegion r, queueRegion, eventHeaderRegion, eventArea] := by
  have clear := staggerClear_alone r s
  have hr' : railOf (staggerClear r s) e.bay = r := by rw [railOf_eq clear.dl]; exact hr
  obtain ⟨w, hw⟩ : ∃ w, w = admitBay r e.bay (staggerClear r s) := ⟨_, rfl⟩
  have rail : w.rail r = admittedRail ((staggerClear r s).rail r) (s.railDesc r) (s.charge e.bay) (profileOf s e.bay) s.uptime := by
    rw [hw, admitBay_rail hr', if_pos rfl, railDesc_eq clear.dl, clear.charge, clear.profileOf, clear.uptime]
  have stagger : (w.rail r).stagger = true := by
    rw [rail]
    simp [admittedRail, hd]
  have bays : ∀ c, c ≠ e.bay → w.bay c = s.bay c := fun c hc => by rw [hw, admitBay_bay, if_neg (Ne.symm hc), clear.bay]
  have queue : w.ps.queue = withoutBay e.bay s.ps.queue := by rw [hw, admitBay_queue, clear.queue]
  have touched : untouched s w (admissionRegions r e.bay) := by
    rw [hw]
    exact (clear.touched.mono fun g hg => .of_mem (by simp_all [admissionRegions])).trans (admitBay_untouched r e.bay _)
  have left := blocked_alone r (blocker w r) w
  refine ⟨_, rfl, ?_⟩
  rw [← hw, examineWith_held fun _ _ _ => .inr stagger]
  refine ⟨fun c hc => (left.bay c).trans (bays c hc), left.queue.trans queue, ?_, ?_,
    touched.trans (left.touched.mono fun g hg => .of_mem (by simp_all [admissionRegions]))⟩
  · rw [blocked_rail, stagger]
  · rw [blocked_rail, rail, staggerClear_rail, admittedRail]

/-- Settles O28: an insertion stops before the first lower entry; the end of a stagger wait is the examination of its rail with
STAGGER clear, which stops at once or goes on from its first admission. -/
theorem joinsTakePlacesAndStaggerEndsExamine : Obligations.JoinsTakePlacesAndStaggerEndsExamine := by
  refine ⟨insertEntry_of_sorted, fun r s hp hs hd hc => ?held, fun r e s hp hs hd hc hpaused hf => ?admitted⟩
  case held =>
    obtain ⟨t, e, rail, alone, ew⟩ := staggerEnd_held hc
    exact ⟨t, by rw [e]; exact exec_staggerEnd hp hs hd, rail, alone.rail_ne, alone.quiet ew, alone.ports, alone.touched⟩
  case admitted =>
    obtain ⟨n, first⟩ := staggerEnd_first hc hpaused hf
    obtain ⟨-, hr, hq⟩ := candidate_spec hc
    have clear := staggerClear_alone r s
    have kept := examineWith_keeps_admitted (s := staggerClear r s) (r := r) (e := e) (fuel := n + 1)
    have work := staggerEnd_work r s
    have calm := examineRail_calm r (staggerOver r s)
    have ended := staggerOver_alone r s
    have rail := (examineRail_examines r (staggerOver r s)).rail
    have done : ∃ t, t = examineRail r (staggerOver r s) := ⟨_, rfl⟩
    obtain ⟨t, ht⟩ := done
    rw [staggerClear, ← first, ← ht] at kept
    rw [← ht] at work calm rail
    obtain ⟨bay, charge, queue⟩ := kept
    change t.bay e.bay = admittedBay ((staggerClear r s).bay e.bay) (profileOf (staggerClear r s) e.bay) (staggerClear r s).uptime at bay
    change t.charge e.bay = (profileOf (staggerClear r s) e.bay).surge at charge
    rw [clear.bay, clear.profileOf, clear.uptime] at bay
    rw [clear.profileOf] at charge
    have spun := (calm.bay e.bay).spun (spun_of_rest (by rw [ended.bay, hq]; simp [BayState.held]))
      (by rw [bay]; rfl)
    obtain ⟨-, -, -, -, last, -⟩ := spun
    rw [railOf_eq (calm.dl.trans ended.dl), hr, calm.uptime, ended.uptime] at last
    refine ⟨t, by rw [ht]; exact exec_staggerEnd hp hs hd, bay, fun c _ => work.left c, charge, queue, last, ?_,
      examineRail_examined ht, fun hstagger => ?_, fun hstagger => ?_, work.onlyBaysAndRail, work.touched⟩
    · rw [rail, staggerOver_rail]
    · obtain ⟨u, hu, h⟩ := staggerEnd_alone (n := n) hr hstagger
      rw [staggerClear, ← first, ← ht] at hu
      subst hu
      exact h
    · rw [ht]
      exact examineWith_stagger (by rw [railDesc_eq ended.dl]; exact hstagger) (by rw [staggerOver_rail])

end

end Sys2Proof.Machine
end

section
/-! SUPPORT. Crossings and hold-offs (R49, R50). -/

namespace Sys2Proof.Machine

section
variable {s : State} {r : RailNo} {current : Nat}

/-- The runs that a change of a rail with one event touches. -/
def railEventRegions (r : RailNo) (s : State) : List Region := [railRegion r, eventRegion s.ew.latest, eventHeaderRegion]

theorem railEventRegions_covered (r : RailNo) (s : State) : ∀ g ∈ railEventRegions r s, Covers (examinationRegions r) g := by
  intro g hg
  simp only [railEventRegions, List.mem_cons, List.not_mem_nil, or_false] at hg
  rcases hg with rfl | rfl | rfl
  · exact .of_mem (by simp [examinationRegions])
  · exact covers_eventRegion (by simp [examinationRegions]) _
  · exact .of_mem (by simp [examinationRegions])

/-- A change of a rail, one event of it and the rail's record. -/
theorem railEvent_cases {e : Event} (he : e.detail.length = 4) (v : Rail) (s : State) :
    ∃ t, t = rewriteRail r (logEvent e (s.setRail r v)) ∧ t.rail r = v ∧ RailAlone (railEventRegions r s) r s t ∧ eventLogged s t e := by
  have record : Rewrites [railRegion r] (logEvent e (s.setRail r v)) (rewriteRail r (logEvent e (s.setRail r v))) :=
    rewriteRail_rewrites r _ (.of_mem (by simp))
  refine ⟨_, rfl, ?_, ?_, ?_⟩
  · rw [record.rail, (publishes_logEvent _ _).rail, State.rail_setRail_same]
  · have logged : RailAlone (railEventRegions r s) r (s.setRail r v) (logEvent e (s.setRail r v)) :=
      logEvent_alone he (s.setRail r v) (.of_mem (by simp [railEventRegions])) (.of_mem (by simp [railEventRegions]))
    exact ((setRail_alone _ s r v).trans logged).trans
      (record.mono fun g hg => .of_mem (by simp_all [railEventRegions])).alone
  · have logged : eventLogged s (logEvent e (s.setRail r v)) e := logEvent_logged he (s.setRail r v)
    exact logged.rewrites record fun g hg => by rw [List.mem_singleton.mp hg]; exact railRegion_apart r

/-- A change of a rail and its record. -/
theorem railRecord_cases (v : Rail) (s : State) :
    ∃ t, t = rewriteRail r (s.setRail r v) ∧ t.rail r = v ∧ RailAlone [railRegion r] r s t ∧ t.ew = s.ew := by
  have record : Rewrites [railRegion r] (s.setRail r v) (rewriteRail r (s.setRail r v)) :=
    rewriteRail_rewrites r _ (.of_mem (by simp))
  exact ⟨_, rfl, by rw [record.rail, State.rail_setRail_same], (setRail_alone _ s r v).trans record.alone, record.ew⟩

/-! ### Rising crossings (R49) -/

theorem exec_risingCrossing (hp : s.phase = .running) (below : (s.rail r).sense ≤ (s.rail r).trip)
    (above : (s.rail r).trip < current) :
    exec (.risingCrossing r current) s =
      .next (rewriteRail r (takeRising r (s.setRail r { s.rail r with sense := current }))) := by
  have h1 : (s.rail r).above = false := by simpa [Rail.above] using below
  have h2 : ((s.setRail r { s.rail r with sense := current }).rail r).above = true := by
    rw [State.rail_setRail_same]; simpa [Rail.above] using above
  change execRisingCrossing r current s = _
  simp only [execRisingCrossing, if_pos hp, h1, h2]

theorem committed_setRail_sense (v : Nat) : committed (s.setRail r { s.rail r with sense := v }) r = committed s r := by
  rw [committed, State.rail_setRail_same]
  rfl

/-- A rising crossing of a rail that is not PAUSED pauses it (R49). -/
theorem takeRising_begins (h : (s.rail r).paused = false) :
    takeRising r (s.setRail r { s.rail r with sense := current }) =
      logEvent (eventOverdraw r (committed s r) (s.rail r).trip) (s.setRail r { s.rail r with sense := current, paused := true }) := by
  rw [takeRising, if_neg (by rw [State.rail_setRail_same]; simp [h]), committed_setRail_sense, State.rail_setRail_same, setRail_setRail]

/-- A rising crossing of a rail that is PAUSED stops its hold-off (R49). -/
theorem takeRising_stops (h : (s.rail r).paused = true) :
    takeRising r (s.setRail r { s.rail r with sense := current }) = s.setRail r { s.rail r with sense := current, holdOffEnd := none } := by
  rw [takeRising, if_pos (by rw [State.rail_setRail_same]; exact h), State.rail_setRail_same, setRail_setRail]

/-- The effect of a rising crossing, of either kind. -/
theorem risingCrossing_cases (current : Nat) (s : State) :
    ∃ t, t = rewriteRail r (takeRising r (s.setRail r { s.rail r with sense := current })) ∧
      ((s.rail r).paused = false →
        t.rail r = { s.rail r with sense := current, paused := true } ∧
        eventLogged s t (eventOverdraw r (committed s r) (s.rail r).trip)) ∧
      ((s.rail r).paused = true → t.rail r = { s.rail r with sense := current, holdOffEnd := none } ∧ t.ew = s.ew) ∧
      RailAlone (railEventRegions r s) r s t := by
  cases hp : (s.rail r).paused with
  | false =>
    obtain ⟨t, ht, rail, alone, logged⟩ := railEvent_cases (e := eventOverdraw r (committed s r) (s.rail r).trip) (r := r)
      (by simp [eventOverdraw]) { s.rail r with sense := current, paused := true } s
    exact ⟨t, by rw [takeRising_begins hp]; exact ht, fun _ => ⟨rail, logged⟩, fun h => by simp at h, alone⟩
  | true =>
    obtain ⟨t, ht, rail, alone, ew⟩ := railRecord_cases (r := r) { s.rail r with sense := current, holdOffEnd := none } s
    refine ⟨t, by rw [takeRising_stops hp]; exact ht, fun h => by simp at h, fun _ => ⟨rail, ew⟩, ?_⟩
    exact ⟨alone.same, alone.pa, alone.pb, alone.touched.mono fun g hg => .of_mem (by simp_all [railEventRegions]), alone.rail_ne⟩

/-! ### Falling crossings (R50) -/

/-- What a falling crossing does outside LOADING. -/
theorem exec_fallingCrossing (hp : s.phase = .running) (above : (s.rail r).trip < (s.rail r).sense)
    (below : current ≤ (s.rail r).trip) :
    exec (.fallingCrossing r current) s =
      .next
        (if (s.rail r).paused then
          if ((rewriteRail r (takeFalling r (s.setRail r { s.rail r with sense := current }))).rail r).paused then
            rewriteRail r (takeFalling r (s.setRail r { s.rail r with sense := current }))
          else examineRail r (rewriteRail r (takeFalling r (s.setRail r { s.rail r with sense := current })))
        else s.setRail r { s.rail r with sense := current }) := by
  have h1 : (s.rail r).above = true := by simpa [Rail.above] using above
  have h2 : ((s.setRail r { s.rail r with sense := current }).rail r).above = false := by
    rw [State.rail_setRail_same]; simpa [Rail.above] using below
  have h3 : ((s.setRail r { s.rail r with sense := current }).rail r).paused = (s.rail r).paused := by rw [State.rail_setRail_same]
  change execFallingCrossing r current s = _
  simp only [execFallingCrossing, if_pos hp, h1, h2, h3]

theorem holdOff_setRail (v : Rail) : ((s.setRail r v).railDesc r).holdOff = (s.railDesc r).holdOff := rfl

theorem takeFalling_starts (h : (s.rail r).paused = true) (hd : 0 < (s.railDesc r).holdOff) :
    takeFalling r (s.setRail r { s.rail r with sense := current }) =
      s.setRail r { s.rail r with
        sense := current, holdOffEnd := some (uptimeAfter s.uptime (1000 * (s.railDesc r).holdOff)) } := by
  rw [takeFalling, if_pos (by rw [State.rail_setRail_same]; exact h), holdOff_setRail,
    if_neg (Nat.ne_of_gt hd), State.rail_setRail_same, setRail_setRail]
  rfl

theorem takeFalling_ends (h : (s.rail r).paused = true) (hd : (s.railDesc r).holdOff = 0) :
    takeFalling r (s.setRail r { s.rail r with sense := current }) =
      logEvent (eventOverdrawEnd r (committed s r))
        (s.setRail r { s.rail r with sense := current, paused := false, holdOffEnd := none }) := by
  rw [takeFalling, if_pos (by rw [State.rail_setRail_same]; exact h), holdOff_setRail, if_pos hd, endPause, committed_setRail_sense,
    State.rail_setRail_same, setRail_setRail]

/-! ### The end of a pause -/

/-- The end of a pause of a rail, from a change of its other fields: the event, the record and the examination (R50). -/
theorem pauseEnd_cases (v : Rail) (s : State) (hp : v.paused = false) (hh : v.holdOffEnd = none) :
    ∃ u t, u = rewriteRail r (logEvent (eventOverdrawEnd r (committed s r)) (s.setRail r v)) ∧ t = examineRail r u ∧ u.rail r = v ∧
      (t.rail r).paused = false ∧ (t.rail r).holdOffEnd = none ∧ (t.rail r).sense = v.sense ∧
      (t.rail r).admitLimit = v.admitLimit ∧ (t.rail r).trip = v.trip ∧ examined t r ∧ RailWork (examinationRegions r) r s t ∧
      (candidate s r = none → eventLogged s t (eventOverdrawEnd r (committed s r)) ∧ t.bc = s.bc ∧ t.ps.queue = s.ps.queue ∧
        untouched s t (railEventRegions r s)) := by
  obtain ⟨u, hu, rail, alone, logged⟩ := railEvent_cases (e := eventOverdrawEnd r (committed s r)) (r := r)
    (by simp [eventOverdrawEnd]) v s
  have examines := (examineRail_examines r u).rail
  obtain ⟨t, ht⟩ : ∃ t, t = examineRail r u := ⟨_, rfl⟩
  have work : RailWork (examinationRegions r) r s t := by
    rw [ht]
    exact (alone.railWork.mono (railEventRegions_covered r s)).trans (examineRail_railWork r u)
  rw [← ht, rail] at examines
  refine ⟨u, t, hu, ht, rail, by rw [examines]; exact hp, by rw [examines]; exact hh, by rw [examines], by rw [examines],
    by rw [examines], examineRail_examined ht, work, fun hc => ?_⟩
  have hc' : candidate u r = none := (alone.candidate r).trans hc
  rw [examineRail_none hc'] at ht
  have record : Rewrites [railRegion r] (setBlocked r none u) t := by rw [ht]; exact publishRail_rewrites r _ (.of_mem (by simp))
  have last : RailAlone [railRegion r] r u t := by rw [ht]; exact blocked_alone r none u
  have kept : eventLogged s (setBlocked r none u) (eventOverdrawEnd r (committed s r)) := logged
  refine ⟨kept.rewrites record fun g hg => by rw [List.mem_singleton.mp hg]; exact railRegion_apart r, ?_, last.queue.trans alone.queue, ?_⟩
  · have e1 : t.bc = u.bc := by rw [last.same]
    have e2 : u.bc = s.bc := by rw [alone.same]
    exact e1.trans e2
  · exact alone.touched.trans (last.touched.mono fun g hg => .of_mem (by simp_all [railEventRegions]))

theorem exec_holdOffEnd (hp : s.phase = .running) (hq : (s.rail r).paused = true)
    (hd : timerDue s.uptime (s.rail r).holdOffEnd = true) :
    exec (.holdOffEnd r) s = .next (examineRail r (rewriteRail r (endPause r s))) :=
  congrArg Host.Outcome.next (if_pos ⟨hp, hq, hd⟩)

/-- Settles O30: each crossing is a change of its rail with its record, and either end of a pause is that with RAIL_OVERDRAW_END and the
examination of the rail. -/
theorem crossingsAndHoldOffsPauseARail : Obligations.CrossingsAndHoldOffsPauseARail := by
  refine ⟨⟨fun r current s hp below above => ?rising, fun r current s hp above below => ?falling⟩, fun r s hp hq hd => ?holdOff⟩
  case rising =>
    obtain ⟨t, ht, begins, stops, alone⟩ := risingCrossing_cases (r := r) current s
    exact ⟨t, by rw [ht]; exact exec_risingCrossing hp below above, begins, stops, alone.rail_ne, alone.same, alone.ports, alone.touched⟩
  case falling =>
    have step := exec_fallingCrossing (r := r) hp above below
    refine ⟨fun hq => ?_, fun hq hd => ?_, fun hq hd => ?_⟩
    · rw [step, if_neg (by simp [hq])]
    · obtain ⟨t, ht, rail, alone, ew⟩ := railRecord_cases (r := r)
        { s.rail r with sense := current, holdOffEnd := some (uptimeAfter s.uptime (1000 * (s.railDesc r).holdOff)) } s
      refine ⟨t, ?_, rail, alone.rail_ne, alone.quiet ew, alone.ports, alone.touched⟩
      rw [step, if_pos hq, takeFalling_starts hq hd, ← ht, if_pos (by rw [rail]; exact hq)]
    · obtain ⟨u, t, hu, ht, rail, paused, holdOff, sense, -, -, done, work, -⟩ := pauseEnd_cases (r := r)
        { s.rail r with sense := current, paused := false, holdOffEnd := none } s rfl rfl
      refine ⟨t, ?_, paused, holdOff, sense, done, work.left, work.onlyBaysAndRail, work.touched⟩
      rw [step, if_pos hq, takeFalling_ends hq hd, ← hu, if_neg (by rw [rail]; simp), ht]
  case holdOff =>
    obtain ⟨u, t, hu, ht, -, paused, holdOff, -, limit, trip, done, work, quiet⟩ := pauseEnd_cases (r := r)
      { s.rail r with paused := false, holdOffEnd := none } s rfl rfl
    exact ⟨t, by rw [ht, hu]; exact exec_holdOffEnd hp hq hd, paused, holdOff, limit, trip, work.left, done, quiet,
      work.onlyBaysAndRail, work.touched⟩

end

end Sys2Proof.Machine
end

section
/-! SUPPORT. The supply state and the admission limits (R28 to R30, R40). -/

namespace Sys2Proof.Machine

section
variable {s t u : State} {r q : RailNo} {b : BayNo}

/-! ### A rail seen from the work of another -/

/-- A search that passes over the entries a filter takes out finds the same entry. -/
theorem find?_filter_of {α : Type} {l : List α} {p k : α → Bool} (h : ∀ x ∈ l, p x = true → k x = true) :
    (l.filter k).find? p = l.find? p := by
  induction l with
  | nil => rfl
  | cons x xs ih =>
    have rest := ih fun y hy => h y (by simp [hy])
    cases hk : k x with
    | true => rw [List.filter_cons_of_pos hk, List.find?_cons, List.find?_cons, rest]
    | false =>
      have hp : p x = false := by
        cases hp : p x with
        | true => rw [h x (by simp) hp] at hk; simp at hk
        | false => rfl
      rw [List.filter_cons_of_neg (by simp [hk]), List.find?_cons, hp, rest]

/-- A change that rail r and its queued bays do not see: the rail's entry, its bays, and what eligibility and draws go by stay, and the
queue loses entries of other rails alone. -/
structure Unseen (r : RailNo) (s t : State) : Prop where
  dl : t.dl = s.dl
  tu : t.tu = s.tu
  drawers : t.bc.drawers = s.bc.drawers
  profiles : t.ps.profiles = s.ps.profiles
  supply : t.ps.supply = s.ps.supply
  rail : t.rail r = s.rail r
  bay : ∀ c, railOf s c = r → t.bay c = s.bay c
  queue : ∃ k : QueueEntry → Bool, t.ps.queue = s.ps.queue.filter k ∧ ∀ e, railOf s e.bay = r → k e = true

theorem Unseen.trans (h : Unseen r s t) (k : Unseen r t u) : Unseen r s u := by
  obtain ⟨p, hp, hp'⟩ := h.queue
  obtain ⟨m, hm, hm'⟩ := k.queue
  have rails : ∀ c, railOf t c = railOf s c := railOf_eq h.dl
  refine ⟨k.dl.trans h.dl, k.tu.trans h.tu, k.drawers.trans h.drawers, k.profiles.trans h.profiles, k.supply.trans h.supply,
    k.rail.trans h.rail, fun c hc => (k.bay c ((rails c).trans hc)).trans (h.bay c hc), fun e => p e && m e, ?_, fun e he => ?_⟩
  · rw [hm, hp, List.filter_filter]
    exact List.filter_congr fun x _ => Bool.and_comm _ _
  · simp only [hp' e he, hm' e ((rails e.bay).trans he), Bool.and_self]

theorem RailAlone.unseen {gs : List Region} (h : RailAlone gs q s t) (hq : r ≠ q) : Unseen r s t :=
  ⟨h.dl, by rw [h.same], by rw [h.same], by rw [h.same], by rw [h.same], h.rail_ne r hq, fun c _ => h.bay c, fun _ => true,
    by simp [h.queue], fun _ _ => rfl⟩

theorem Publishes.unseen (h : Publishes s t) : Unseen r s t :=
  ⟨h.dl, h.tu, by rw [h.bc], by rw [h.ps], by rw [h.ps], h.rail r, fun c _ => h.bay c, fun _ => true, by simp [h.ps], fun _ _ => rfl⟩

theorem Unseen.refl (r : RailNo) (s : State) : Unseen r s s := (Publishes.refl s).unseen

theorem admitBay_unseen (hb : railOf s b = q) (hq : r ≠ q) (hs : (s.bay b).state = .seated .queued) :
    Unseen r s (admitBay q b s) := by
  have a := admitBay_admits q b s hb hs
  have ne : ∀ c, railOf s c = r → b ≠ c := fun c hc e => hq (by rw [← hc, ← hb, e])
  refine ⟨a.quiet.dl, (congrArg State.tu a.same).trans rfl, (congrArg (fun v : State => v.bc.drawers) a.same).trans rfl,
    a.profiles_eq, a.supply_eq, ?_, fun c hc => ?_, fun e => e.bay ≠ b, ?_, fun e he => ?_⟩
  · rw [admitBay_rail hb, if_neg (Ne.symm hq)]
  · rw [admitBay_bay, if_neg (ne c hc)]
  · rw [admitBay_queue]; rfl
  · simpa using (ne e.bay he).symm

/-- The examination of one rail is not seen by another. -/
theorem examineWith_unseen (fuel : Nat) (hq : r ≠ q) (s : State) : Unseen r s (examineWith fuel q s) := by
  induction fuel generalizing s with
  | zero => exact .refl r s
  | succ n ih =>
    unfold examineWith
    split
    · exact (blocked_alone q none s).unseen hq
    · rename_i e he
      obtain ⟨-, hr, hs⟩ := candidate_spec he
      split
      · split
        · exact (blocked_alone q none s).unseen hq
        · have clear : Unseen r s (setBlocked q none s) := (setRail_alone [] s q _).unseen hq
          exact (clear.trans (admitBay_unseen (s := setBlocked q none s) hr hq hs)).trans (ih _)
      · exact (blocked_alone q _ s).unseen hq

theorem Unseen.eligible (h : Unseen r s t) (hb : railOf s b = r) : eligible t b = eligible s b := by
  have sense : ∀ z, t.sense z = s.sense z := fun z => by simp [State.sense, h.tu]
  rw [Machine.eligible, Machine.eligible, h.bay b hb, bayDesc_eq h.dl, sense,
    drawerHome_eq h.dl (fun d => by simp [State.drawer, h.drawers]) b]

theorem Unseen.candidate (h : Unseen r s t) : candidate t r = candidate s r := by
  obtain ⟨keep, queue, keeps⟩ := h.queue
  have same : (fun e : QueueEntry => decide (railOf t e.bay = r) && Machine.eligible t e.bay) =
      fun e => decide (railOf s e.bay = r) && Machine.eligible s e.bay := by
    funext e
    rw [railOf_eq h.dl]
    by_cases hc : railOf s e.bay = r
    · rw [h.eligible hc]
    · simp [hc]
  rw [Machine.candidate, Machine.candidate, queue, same]
  refine find?_filter_of fun e _ hp => keeps e ?_
  simpa using (Bool.and_eq_true_iff.mp hp).1

/-- A rail that stands examined stands so after a change that it does not see. -/
theorem Unseen.examined (h : Unseen r s t) (he : examined s r) : examined t r := by
  have profiles : ∀ e, Machine.candidate s r = some e → profileOf t e.bay = profileOf s e.bay := fun e hc => by
    simp [profileOf, State.profile, h.profiles, h.bay e.bay (candidate_spec hc).2.1]
  have draw : committed t r = committed s r := by rw [committed, committed, h.rail, railDesc_eq h.dl]
  unfold Machine.examined at he ⊢
  rw [h.candidate, h.rail, draw]
  cases hc : Machine.candidate s r with
  | none => rw [hc] at he; exact he
  | some e =>
    rw [hc] at he
    dsimp only at he ⊢
    rw [profiles e hc]
    exact he

/-! ### A new admission limit (R30) -/

theorem takeCrossing_alone (r : RailNo) (w : Bool) (s : State) : RailAlone (examinationRegions r) r s (takeCrossing r w s) := by
  have rail : ∀ v, RailAlone (examinationRegions r) r s (s.setRail r v) := fun v => setRail_alone _ s r v
  have none : RailAlone (examinationRegions r) r s s := (Rewrites.refl _ s).alone
  have event : ∀ (e : Event) (v : Rail), e.detail.length = 4 →
      RailAlone (examinationRegions r) r s (logEvent e (s.setRail r v)) := fun e v he =>
    (rail v).trans (logEvent_alone he _ (covers_eventRegion (by simp [examinationRegions]) _) (.of_mem (by simp [examinationRegions])))
  unfold takeCrossing
  split
  · unfold takeRising
    split
    · exact rail _
    · exact event _ _ (by simp [eventOverdraw])
  · unfold takeFalling
    split
    · split
      · exact event _ _ (by simp [eventOverdrawEnd])
      · exact rail _
    · exact none
  · exact none
  · exact none

theorem evaluateOverLimit_alone (r : RailNo) (s : State) : RailAlone (examinationRegions r) r s (evaluateOverLimit r s) := by
  unfold evaluateOverLimit
  dsimp only
  split
  · exact (Rewrites.refl _ s).alone
  · exact (setRail_alone _ s r _).trans (logEvent_alone (by simp [eventOverLimit]) _
      (covers_eventRegion (by simp [examinationRegions]) _) (.of_mem (by simp [examinationRegions])))

theorem limitMoved_alone (r : RailNo) (s : State) : RailAlone (examinationRegions r) r s (limitMoved r s) :=
  ((setRail_alone _ s r _).trans (takeCrossing_alone r _ _)).trans (evaluateOverLimit_alone r _)

theorem limitMoved_rail (r : RailNo) (s : State) : ∃ p e, (limitMoved r s).rail r = movedRail s r p e := by
  obtain ⟨p, e, h⟩ := limitMoved_publishes r s
  exact ⟨p, e, by rw [h.rail, State.rail_setRail_same]⟩

/-- A recomputation at a new value, before and after its examination (R30). -/
theorem recomputeLimit_moved (h : limitFor s.ps.supply (s.rail r) ≠ (s.rail r).admitLimit) :
    recomputeLimit r s = publishRail r (examineRail r (limitMoved r s)) := by rw [recomputeLimit_eq, if_neg h]

theorem recomputeLimit_same (h : limitFor s.ps.supply (s.rail r) = (s.rail r).admitLimit) : recomputeLimit r s = s := by
  rw [recomputeLimit_eq, if_pos h]

theorem recomputeLimit_work (r : RailNo) (s : State) : RailWork (examinationRegions r) r s (recomputeLimit r s) := by
  rw [recomputeLimit_eq]
  split
  · exact .refl _ r s
  · exact ((limitMoved_alone r s).railWork.trans (examineRail_railWork r _)).trans
      ((publishRail_rewrites r _ (.of_mem (by simp [examinationRegions]))).alone).railWork

/-- What a recomputation leaves of its rail: the limits set, the admission limit they give, and at a new value its trip level (R30, R48). -/
theorem recomputeLimit_rail (r : RailNo) (s : State) :
    ((recomputeLimit r s).rail r).dual = (s.rail r).dual ∧ ((recomputeLimit r s).rail r).single = (s.rail r).single ∧
    ((recomputeLimit r s).rail r).admitLimit = limitFor s.ps.supply (s.rail r) ∧
    (limitFor s.ps.supply (s.rail r) ≠ (s.rail r).admitLimit →
      ((recomputeLimit r s).rail r).trip = tripLevel (limitFor s.ps.supply (s.rail r)) (s.railDesc r).level) := by
  by_cases h : limitFor s.ps.supply (s.rail r) = (s.rail r).admitLimit
  · rw [recomputeLimit_same h]
    exact ⟨rfl, rfl, h.symm, fun k => absurd h k⟩
  · obtain ⟨p, e, rail⟩ := limitMoved_rail r s
    have examines := (examineRail_examines r (limitMoved r s)).rail
    rw [recomputeLimit_moved h, (publishes_publishRail r _).rail, examines, rail]
    exact ⟨rfl, rfl, rfl, fun _ => rfl⟩

/-- At a new admission limit the rail stands examined (R30, R40). -/
theorem recomputeLimit_examined (h : limitFor s.ps.supply (s.rail r) ≠ (s.rail r).admitLimit) (ht : t = recomputeLimit r s) :
    examined t r := by
  rw [recomputeLimit_moved h] at ht
  obtain ⟨u, hu⟩ : ∃ u, u = examineRail r (limitMoved r s) := ⟨_, rfl⟩
  have k : Publishes u t := by rw [ht, ← hu]; exact publishes_publishRail r u
  exact k.examined (examineRail_examined hu)

theorem recomputeLimit_unseen (hq : r ≠ q) (s : State) : Unseen r s (recomputeLimit q s) := by
  rw [recomputeLimit_eq]
  split
  · exact .refl r s
  · exact (((limitMoved_alone q s).unseen hq).trans (examineWith_unseen _ hq _)).trans (publishes_publishRail q _).unseen

/-! ### The change of the supply state (R28, R29) -/

/-- The runs that a change of the supply state touches. -/
def supplyRegions : List Region := [liveRegion, bayArea, queueRegion, eventHeaderRegion, eventArea] ++ railRegions

theorem examinationRegions_covered {gs : List Region} (h1 : bayArea ∈ gs) (h2 : queueRegion ∈ gs) (h3 : eventHeaderRegion ∈ gs)
    (h4 : eventArea ∈ gs) (h5 : railRegion r ∈ gs) : ∀ g ∈ examinationRegions r, Covers gs g := by
  intro g hg
  simp only [examinationRegions, List.mem_cons, List.not_mem_nil, or_false] at hg
  rcases hg with rfl | rfl | rfl | rfl | rfl
  · exact .of_mem h1
  · exact .of_mem h5
  · exact .of_mem h2
  · exact .of_mem h3
  · exact .of_mem h4

theorem railRegion_mem (r : RailNo) : railRegion r ∈ railRegions := List.mem_map.mpr ⟨r, List.mem_finRange r, rfl⟩

theorem supplyRegions_covered (r : RailNo) : ∀ g ∈ examinationRegions r, Covers supplyRegions g :=
  examinationRegions_covered (by simp [supplyRegions]) (by simp [supplyRegions]) (by simp [supplyRegions]) (by simp [supplyRegions])
    (List.mem_append_right _ (railRegion_mem r))

theorem PowerWork.refl (gs : List Region) (s : State) : PowerWork gs s s := (RailWork.refl gs 0 s).toPowerWork

theorem recomputeLimits_work (s : State) : PowerWork supplyRegions s (forFour recomputeLimit s) :=
  forEach_relates _ (.refl _) .trans (fun r _ u => ((recomputeLimit_work r u).mono (supplyRegions_covered r)).toPowerWork) s

/-- The admission limits recomputed one after another, seen from one rail: its own turn sets them, and the others are not seen by it. -/
theorem recomputeLimits_at (r : RailNo) (s : State) (ht : t = forFour recomputeLimit s) :
    (t.rail r).admitLimit = limitFor s.ps.supply (s.rail r) ∧ t.ps.supply = s.ps.supply ∧
    (limitFor s.ps.supply (s.rail r) ≠ (s.rail r).admitLimit →
      (t.rail r).trip = tripLevel (limitFor s.ps.supply (s.rail r)) (s.railDesc r).level ∧ examined t r) := by
  have turns : ∃ v, Unseen r s v ∧ Unseen r (recomputeLimit r v) t := by
    rw [ht]
    refine forFour_at r (P := Unseen r s) (Q := fun u => ∃ v, Unseen r s v ∧ Unseen r (recomputeLimit r v) u) ?_ ?_ ?_ s (.refl r s)
    · exact fun q hq u hu => hu.trans (recomputeLimit_unseen (Ne.symm hq) u)
    · exact fun u hu => ⟨u, hu, .refl r _⟩
    · rintro q hq u ⟨v, hv, hu⟩
      exact ⟨v, hv, hu.trans (recomputeLimit_unseen (Ne.symm hq) u)⟩
  obtain ⟨v, before, after⟩ := turns
  obtain ⟨-, -, limit, trip⟩ := recomputeLimit_rail r v
  have supply := recomputeLimit_ps r v
  have same : limitFor v.ps.supply (v.rail r) = limitFor s.ps.supply (s.rail r) := by rw [before.supply, before.rail]
  rw [same] at limit
  refine ⟨by rw [after.rail, limit], (after.supply.trans supply.2.2).trans before.supply, fun hne => ⟨?_, ?_⟩⟩
  · rw [after.rail, trip (by rw [same, before.rail]; exact hne), same, railDesc_eq before.dl]
  · exact after.examined (recomputeLimit_examined (by rw [same, before.rail]; exact hne) rfl)

theorem supplyMoved_untouched (v : SupplyState) (s : State) : untouched s (supplyMoved v s) supplyRegions := by
  have logged : untouched s
      (logEvent (eventSupplyChanged s.ps.supply v s.ps.lines[0].level s.ps.lines[1].level)
        { s with ps := { s.ps with supply := v } }) supplyRegions :=
    logEvent_touches (e := eventSupplyChanged s.ps.supply v s.ps.lines[0].level s.ps.lines[1].level) rfl
      { s with ps := { s.ps with supply := v } } (covers_eventRegion (by simp [supplyRegions]) _) (.of_mem (by simp [supplyRegions]))
  refine logged.trans ((untouched_putRecord liveBase (liveBody _) _).mono fun g hg => ?_)
  rw [List.mem_singleton.mp hg, liveBody_length]
  exact .of_mem (by simp [supplyRegions, liveRegion])

/-- The supply states that a line's change leaves and makes differ (R28). -/
theorem supplyOf_toggled (n : SupplyNo) (s : State) (v : Option Uptime) :
    linesSupply (setLine n { level := !s.ps.lines[n].level, debounce := v } s) ≠ linesSupply s := by
  have flip : ∀ (i : Nat) (hi : i < 2), ((setLine n { level := !s.ps.lines[n].level, debounce := v } s).ps.lines[i]).level =
      if n.val = i then !s.ps.lines[i].level else s.ps.lines[i].level := by
    intro i hi
    simp only [setLine, Vector.getElem_set, Fin.getElem_fin]
    split
    · rename_i h; subst h; rfl
    · rfl
  rw [linesSupply, linesSupply, flip, flip]
  match n with
  | 0 => cases s.ps.lines[0].level <;> cases s.ps.lines[1].level <;> decide
  | 1 => cases s.ps.lines[0].level <;> cases s.ps.lines[1].level <;> decide

end

end Sys2Proof.Machine
end

section
/-! SUPPORT. The statement of a supply line's debounce end (R28 to R30). -/

namespace Sys2Proof.Machine

section
variable {s t : State} {n : SupplyNo}

theorem exec_supplyDebounceEnd (hp : s.phase ≠ .inReset)
    (hd : timerDue s.uptime (s.ps.lines[n].debounce.map fun u => u + 10) = true) :
    exec (.supplyDebounceEnd n) s = .next (changeLine n s) := congrArg Host.Outcome.next (if_pos ⟨hp, hd⟩)

/-- The line's new level, as its debounce end sets it (R28). -/
def lineMoved (n : SupplyNo) (s : State) : State := setLine n { level := !s.ps.lines[n].level, debounce := none } s

theorem changeLine_loading (h : s.phase = .loading) : changeLine n s = lineMoved n s := by
  have phase : (lineMoved n s).phase ≠ .running := by
    rw [show (lineMoved n s).phase = s.phase from rfl, h]
    simp
  exact if_neg fun k => phase k.1

theorem changeLine_running (h : s.phase = .running) (hs : s.ps.supply = linesSupply s) :
    changeLine n s = changeSupply (linesSupply (lineMoved n s)) (lineMoved n s) := by
  have supply : linesSupply (lineMoved n s) ≠ (lineMoved n s).ps.supply := by
    rw [show (lineMoved n s).ps.supply = linesSupply s from hs]
    exact supplyOf_toggled n s none
  exact if_pos ⟨h, supply⟩

/-- A change of the supply state, from the state with the new lines and the new supply state on. -/
theorem changeSupply_work (v : SupplyState) (ht : t = changeSupply v s) :
    t.ps.lines = s.ps.lines ∧ t.ps.supply = v ∧
    (∀ r, (t.rail r).admitLimit = limitFor v (s.rail r) ∧
      (limitFor v (s.rail r) ≠ (s.rail r).admitLimit →
        (t.rail r).trip = tripLevel (limitFor v (s.rail r)) (s.railDesc r).level ∧ examined t r)) ∧
    PowerWork supplyRegions { s with ps := { s.ps with supply := v } } t := by
  have moved := supplyMoved_publishes v s
  have lines : t.ps.lines = s.ps.lines := by rw [ht]; exact changeSupply_lines v s
  rw [changeSupply_eq] at ht
  obtain ⟨u, hu⟩ : ∃ u, u = supplyMoved v s := ⟨_, rfl⟩
  have touched := supplyMoved_untouched v s
  rw [← hu] at ht moved touched
  have supply : u.ps.supply = v := by rw [moved.ps]
  have rail : ∀ r, u.rail r = s.rail r := fun r => moved.rail r
  have dl : u.dl = s.dl := moved.dl
  refine ⟨lines, ?_, fun r => ?_, ?_⟩
  · exact (recomputeLimits_at 0 u ht).2.1.trans supply
  · obtain ⟨limit, -, rest⟩ := recomputeLimits_at r u ht
    rw [supply, rail] at limit rest
    rw [railDesc_eq dl] at rest
    exact ⟨limit, rest⟩
  · rw [ht]
    exact (moved.railWork (r := 0) touched).toPowerWork.trans (recomputeLimits_work u)

/-- Settles O29: a line's change always changes the supply state, since it changes how many lines are good; each rail's turn recomputes
its limit, and the turns of the other rails are not seen by it. -/
theorem supplyChangeMovesTheAdmitLimits : Obligations.SupplyChangeMovesTheAdmitLimits := by
  refine fun n s hd => ⟨fun hp => ?loading, fun hp hs => ?running⟩
  case loading => rw [exec_supplyDebounceEnd (by rw [hp]; simp) hd, changeLine_loading hp]; rfl
  case running =>
    obtain ⟨t, ht⟩ : ∃ t, t = changeSupply (linesSupply (lineMoved n s)) (lineMoved n s) := ⟨_, rfl⟩
    obtain ⟨lines, supply, limits, work⟩ := changeSupply_work _ ht
    refine ⟨t, by rw [exec_supplyDebounceEnd (by rw [hp]; simp) hd, changeLine_running hp hs, ht], lines, ?_, fun r => ?_, work.left,
      ?_, work.touched⟩
    · rw [supply, lines]; rfl
    · obtain ⟨limit, moved⟩ := limits r
      rw [supply, limit]
      exact ⟨rfl, moved⟩
    · rw [supply, lines]
      exact work.frame

end

end Sys2Proof.Machine
end

section
/-! SUPPORT. An order posted alone, from its take to its finish: what its slot, its context and the turn leave of the rest (R143 to
R147). -/

namespace Sys2Proof.Machine

section
variable {s t u v : State} {gs : List Region} {x : Port} {n : SlotNo}

/-! ### The finish of a slot (R144) -/

theorem slotBase_lt (x : Port) (n : SlotNo) : slotBase x n + 32 ≤ 0x0700 := by
  have lt := n.isLt
  cases x <;> simp only [slotBase] <;> omega

theorem answerBytes_length (o : Answer) : o.bytes.length = 8 := by simp [Answer.bytes, zeros]

/-- A change of the contexts and of a slot with its notice. -/
structure SlotWork (x : Port) (n : SlotNo) (s t : State) : Prop where
  same : t = { s with oi := { s.oi with contexts := t.oi.contexts }, xm := t.xm, pa := t.pa, pb := t.pb }
  pa : Notified s.pa t.pa
  pb : Notified s.pb t.pb
  touched : untouched s t [slotRegion x n]

/-- The memory of a finish: the answer in bytes 24 to 31 and DONE in byte 0. -/
theorem finishSlot_xm (x : Port) (n : SlotNo) (o : Answer) (s : State) :
    (finishSlot x n o s).xm = Memory.write (Memory.write s.xm (slotBase x n + 24) o.bytes) (slotBase x n) [slotDone] := by
  cases x <;> rfl

theorem noticePort_bit (x : Port) (n : SlotNo) (s : State) : ((noticePort x (slotBit n) s).port x).notice.getLsbD n.val = true := by
  cases x <;> simp [noticePort, State.port, State.setPort, PortUnit.notify, slotBit_bit]

theorem finishSlot_finished (x : Port) (n : SlotNo) (o : Answer) (s : State) : slotFinished (finishSlot x n o s) x n o := by
  have same := Memory.readRun_write_same s.xm (slotBase x n + 24) o.bytes
  rw [answerBytes_length] at same
  refine ⟨?_, ?_, noticePort_bit x n _⟩
  · simp [slotState, finishSlot_xm, Memory.read_write]
  · rw [finishSlot_xm, Memory.readRun_write_disjoint (.inr (by simp)), same]

theorem finishSlot_work (x : Port) (n : SlotNo) (o : Answer) (s : State) : SlotWork x n s (finishSlot x n o s) := by
  obtain ⟨w, hw⟩ : ∃ w, w = dropContext x n ((s.store (slotBase x n + 24) o.bytes).store (slotBase x n) [slotDone]) := ⟨_, rfl⟩
  have notices := publishes_noticePort x (slotBit n) (slotBit_legal n) w
  have whole : finishSlot x n o s = noticePort x (slotBit n) w := by rw [hw]; rfl
  refine ⟨?_, ?_, ?_, ?_⟩
  · rw [whole, hw]
    cases x <;> rfl
  · rw [whole]
    have pa : w.pa = s.pa := by rw [hw]; rfl
    exact pa ▸ notices.pa
  · rw [whole]
    have pb : w.pb = s.pb := by rw [hw]; rfl
    exact pb ▸ notices.pb
  · have lo : Covers [slotRegion x n] (slotBase x n + 24, o.bytes.length) :=
      .of_within (h := slotRegion x n) (by simp) (by simp [slotRegion]) (by rw [answerBytes_length]; simp [slotRegion])
    have hi : Covers [slotRegion x n] (slotBase x n, [slotDone].length) :=
      .of_within (h := slotRegion x n) (by simp) (by simp [slotRegion]) (by simp [slotRegion])
    exact (untouched_store s lo).trans (untouched_write (finishSlot_xm x n o s) hi)

theorem finishSlot_contexts (x : Port) (n : SlotNo) (o : Answer) (s : State) :
    (finishSlot x n o s).oi.contexts = s.oi.contexts.filter fun c => ¬(c.port = x ∧ c.slot = n) := by
  cases x <;> rfl

/-! ### The take (R145) -/

/-- The order with its context made and its slot TAKEN. -/
structure Taken (x : Port) (n : SlotNo) (c : Context) (s u : State) : Prop where
  same : u = { s with oi := { s.oi with contexts := c :: s.oi.contexts }, xm := u.xm }
  touched : untouched s u [slotRegion x n]

theorem takeSlot_frame (x : Port) (n : SlotNo) (s : State) :
    takeSlot x n s =
      { s with
        oi := { s.oi with contexts := contextFrom x n s :: s.oi.contexts }, xm := (takeSlot x n s).xm, pa := (takeSlot x n s).pa
        pb := (takeSlot x n s).pb } := by
  cases x <;> rfl

theorem postOrder_frame (x : Port) (n : SlotNo) (kind : Byte) (bytes : List Byte) (s : State) :
    postOrder x n kind bytes s =
      { s with
        xm := (postOrder x n kind bytes s).xm, pa := (postOrder x n kind bytes s).pa, pb := (postOrder x n kind bytes s).pb } := by
  cases x <;> rfl

theorem postOrder_port (x : Port) (n : SlotNo) (kind : Byte) (bytes : List Byte) (s : State) :
    (postOrder x n kind bytes s).port x = { s.port x with post := (s.port x).post ||| (slotBit n &&& postMask) } := by
  simp [postOrder, writePost]

theorem takeSlot_port (x : Port) (n : SlotNo) (s : State) :
    (takeSlot x n s).port x = { s.port x with post := (s.port x).post &&& ~~~(slotBit n) } := by
  simp [takeSlot, clearPost]

theorem takeSlot_other (x : Port) (n : SlotNo) (s : State) : (takeSlot x n s).port (otherPort x) = s.port (otherPort x) := by
  simp [takeSlot, clearPost]

/-- The post bit that an order sets is cleared at its take, and no other bit of the ports differs. -/
theorem takeSlot_postOrder_ports (kind : Byte) (bytes : List Byte) (h : (s.port x).post = 0) (y : Port) :
    (takeSlot x n (postOrder x n kind bytes s)).port y = s.port y := by
  have other := takeSlot_other x n (postOrder x n kind bytes s)
  rw [postOrder_other] at other
  have own : (takeSlot x n (postOrder x n kind bytes s)).port x = s.port x := by
    have e : ((s.port x).post ||| (slotBit n &&& postMask)) &&& ~~~(slotBit n) = (s.port x).post := by
      rw [h, slotBit_postMask]
      simp
    rw [takeSlot_port, postOrder_port, e]
  cases x <;> cases y
  · exact own
  · exact other
  · exact other
  · exact own

theorem takeSlot_xm (x : Port) (n : SlotNo) (s : State) :
    (takeSlot x n s).xm = Memory.write s.xm (slotBase x n) [slotTaken] := by
  cases x <;> rfl

theorem argsOf_length (bs : List Byte) : (argsOf bs).toList.length = 20 := by simp

theorem takeSlot_taken (kind : Byte) (bytes : List Byte) (h : (s.port x).post = 0) :
    Taken x n { port := x, slot := n, kind := kind, tag := slotTag s x n, args := argsOf bytes, takenAt := s.uptime, linger := none } s
      (takeSlot x n (postOrder x n kind bytes s)) := by
  have pa : (takeSlot x n (postOrder x n kind bytes s)).pa = s.pa := takeSlot_postOrder_ports kind bytes h .a
  have pb : (takeSlot x n (postOrder x n kind bytes s)).pb = s.pb := takeSlot_postOrder_ports kind bytes h .b
  have within : ∀ {a k : Nat}, slotBase x n ≤ a → a + k ≤ slotBase x n + 32 → Covers [slotRegion x n] (a, k) := fun lo hi =>
    .of_within (h := slotRegion x n) (by simp) lo hi
  constructor
  · have post := postOrder_frame x n kind bytes s
    have take := takeSlot_frame x n (postOrder x n kind bytes s)
    rw [contextFrom_postOrder, pa, pb] at take
    generalize takeSlot x n (postOrder x n kind bytes s) = u at take ⊢
    generalize postOrder x n kind bytes s = w at post take
    conv => lhs; rw [take, post]
  · have h1 : untouched s (s.store (slotBase x n + 1) [kind]) [slotRegion x n] :=
      untouched_store s (within (by omega) (by simp))
    have h2 := h1.trans (untouched_store (bs := (argsOf bytes).toList) (s.store (slotBase x n + 1) [kind])
      (a := slotBase x n + 4) (within (by omega) (by rw [argsOf_length]; omega)))
    have h3 : untouched s (postOrder x n kind bytes s) [slotRegion x n] :=
      h2.trans (untouched_write (t := postOrder x n kind bytes s) (postOrder_xm x n kind bytes s) (within (by omega) (by simp)))
    exact h3.trans (untouched_write (takeSlot_xm x n _) (within (by omega) (by simp)))

/-! ### An order alone -/

/-- The decision of an order that passes the checks, from the owner's answer. -/
theorem decideOrder_finished {c : Context} {o : Answer} (live : (u.port c.port).state = .live) (form : formCheck c.kind c.args = none)
    (claims : claimRange c.kind c.args = []) (route : routeOrder c u = (v, some o)) :
    decideOrder c u = finishSlot c.port c.slot o v := by
  rw [decideOrder, if_neg (by simp [live]), form, claims]
  dsimp only [firstIn, List.find?_nil]
  rw [route]

/-- A whole order of a kind without claims: taken, carried out by its owner, finished, and the turn passed. -/
theorem commandOrder_cases (kind : Byte) (bytes : List Byte) (ready : readyFor s x n) (form : formCheck kind (argsOf bytes) = none)
    (claims : claimRange kind (argsOf bytes) = []) :
    ∃ c u, (c.port = x ∧ c.slot = n) ∧ c.kind = kind ∧ c.args = argsOf bytes ∧ Taken x n c s u ∧
      ∀ v o, routeOrder c u = (v, some o) → commandOrder x n kind bytes s = passTurn x (finishSlot x n o v) := by
  obtain ⟨running, live, pa, pb, context⟩ := ready
  have posts : ∀ y, (s.port y).post = 0 := fun y => by cases y <;> [exact pa; exact pb]
  have taken := takeSlot_taken (n := n) kind bytes (posts x)
  obtain ⟨c, hc⟩ : ∃ c : Context, c =
      { port := x, slot := n, kind := kind, tag := slotTag s x n, args := argsOf bytes, takenAt := s.uptime, linger := none } :=
    ⟨_, rfl⟩
  obtain ⟨u, hu⟩ : ∃ u, u = takeSlot x n (postOrder x n kind bytes s) := ⟨_, rfl⟩
  have port : (u.port x).state = .live := by rw [hu, takeSlot_postOrder_ports kind bytes (posts x)]; exact live
  have alone := commandOrder_alone x n kind bytes s running (posts x) (posts _) context
  rw [← hc, ← hu] at alone
  rw [← hc, ← hu] at taken
  refine ⟨c, u, by simp [hc], by rw [hc], by rw [hc], taken, fun v o route => ?_⟩
  have decided : decideOrder c u = finishSlot c.port c.slot o v :=
    decideOrder_finished (by rw [hc]; exact port) (by rw [hc]; exact form) (by rw [hc]; exact claims) route
  rw [alone, decided, hc]

end

end Sys2Proof.Machine
end

section
/-! SUPPORT. The orders that act on the tables of the power sequencer: SET_PROFILE and SET_RAIL_LIMIT (R40, R46, R47). -/

namespace Sys2Proof.Machine

section
variable {s t u v : State} {gs : List Region} {x : Port} {n : SlotNo} {c : Context} {o : Answer} {r : RailNo}

/-! ### Owner's work, answered -/

theorem Taken.work (hu : Taken x n c s u) : PowerWork [slotRegion x n] s u := by
  refine ⟨⟨?_, ?_⟩, hu.touched, fun b => ?_⟩
  · rw [hu.same]
  · rw [hu.same]; exact ⟨(Notified.refl _).only, (Notified.refl _).only⟩
  · rw [hu.same]; exact leftOrAdmitted_refl s b

theorem SlotWork.work (h : SlotWork x n s t) : PowerWork [slotRegion x n] s t := by
  have bc : t.bc = s.bc := by rw [h.same]
  have ps : t.ps = s.ps := by rw [h.same]
  refine ⟨⟨?_, h.pa.only, h.pb.only⟩, h.touched, fun b => .inl ⟨by simp [State.bay, bc], by simp [State.charge, ps], by rw [ps]⟩⟩
  have ew : t.ew = s.ew := by rw [h.same]
  rw [bc, ps, ew]
  exact h.same

/-- The turn passed after work of the power sequencer. -/
theorem PowerWork.passTurn (h : PowerWork gs s t) (x : Port) :
    PowerWork gs { s with oi := { s.oi with turn := otherPort x } } (Machine.passTurn x t) := by
  refine ⟨⟨?_, h.frame.2⟩, h.touched, h.left⟩
  have frame := h.frame.1
  generalize ht : Machine.passTurn x t = v
  have bc : v.bc = t.bc := by rw [← ht]; rfl
  have ps : v.ps = t.ps := by rw [← ht]; rfl
  have oi : v.oi = { t.oi with turn := otherPort x } := by rw [← ht]; rfl
  have ew : v.ew = t.ew := by rw [← ht]; rfl
  have xm : v.xm = t.xm := by rw [← ht]; rfl
  have pa : v.pa = t.pa := by rw [← ht]; rfl
  have pb : v.pb = t.pb := by rw [← ht]; rfl
  rw [bc, ps, oi, ew, xm, pa, pb, ← ht, Machine.passTurn]
  conv => lhs; rw [frame]

/-- The owner's work of an order with its take, its finish and the turn around it. -/
theorem PowerWork.answered (hv : PowerWork gs u v) (hu : Taken x n c s u) (hg : Covers gs (slotRegion x n))
    (ht : t = Machine.passTurn x (finishSlot x n o v)) :
    PowerWork gs { s with oi := { s.oi with turn := otherPort x } } t ∧ slotFinished t x n o ∧ t.ps = v.ps ∧
      (∀ r, examined v r → examined t r) := by
  have work := finishSlot_work x n o v
  have done := finishSlot_finished x n o v
  generalize finishSlot x n o v = w at ht work done
  have covers : ∀ g ∈ [slotRegion x n], Covers gs g := fun g hg' => by rw [List.mem_singleton.mp hg']; exact hg
  have whole := (((hu.work.mono covers).trans hv).trans (work.work.mono covers)).passTurn x
  rw [← ht] at whole
  have ps : t.ps = v.ps := by rw [ht, work.same]; rfl
  have dl : t.dl = v.dl := by rw [ht, work.same]; rfl
  have bc : t.bc = v.bc := by rw [ht, work.same]; rfl
  have tu : t.tu = v.tu := by rw [ht, work.same]; rfl
  have xm : t.xm = w.xm := by rw [ht]; rfl
  have port : t.port x = w.port x := by rw [ht]; cases x <;> rfl
  refine ⟨whole, ?_, ps, fun r => examined_of_eq dl bc ps tu⟩
  obtain ⟨h1, h2, h3⟩ := done
  exact ⟨by rw [slotState, xm]; exact h1, by rw [xm]; exact h2, by rw [port]; exact h3⟩

/-- An order refused by its owner leaves everything but its slot, the turn and the notices. -/
theorem refused_answered (hu : Taken x n c s u) (hc : c.port = x ∧ c.slot = n) (ready : contextOf s x n = none)
    (ht : t = passTurn x (finishSlot x n o u)) : slotFinished t x n o ∧ onlyAnswered s t x n := by
  obtain ⟨work, done, -, -⟩ := (PowerWork.refl [slotRegion x n] u).answered hu (.of_mem (by simp)) ht
  have none : ∀ d ∈ s.oi.contexts, ¬(d.port = x ∧ d.slot = n) := by simpa [contextOf] using ready
  have contexts : t.oi.contexts = s.oi.contexts := by
    have e : t.oi.contexts = (finishSlot x n o u).oi.contexts := by rw [ht]; rfl
    have taken : u.oi.contexts = c :: s.oi.contexts := by rw [hu.same]
    rw [e, finishSlot_contexts, taken, List.filter_cons_of_neg (by simp [hc]), List.filter_eq_self]
    exact fun d hd => decide_eq_true (none d hd)
  refine ⟨done, ?_, work.frame.2, work.touched⟩
  obtain ⟨frame, -⟩ := work.frame
  have bays : t.bc.bays = s.bc.bays := by rw [ht, (finishSlot_work x n o u).same, hu.same]; rfl
  have ps : t.ps = s.ps := by rw [ht, (finishSlot_work x n o u).same, hu.same]; rfl
  have ew : t.ew = s.ew := by rw [ht, (finishSlot_work x n o u).same, hu.same]; rfl
  rw [bays, ps, ew, contexts] at frame
  exact frame

end

end Sys2Proof.Machine
end

section
/-! SUPPORT. The statements of SET_RAIL_LIMIT and SET_PROFILE (R30, R40, R46, R47). -/

namespace Sys2Proof.Machine

section
variable {s t u v : State} {gs : List Region} {x : Port} {n : SlotNo} {c : Context} {r : RailNo}

/-! ### The arguments of an order (R149) -/

theorem argByte_argsOf (bs : List Byte) {p : Nat} (hp : p < 24) : argByte (argsOf bs) p = (bs.getD (p - 4) 0).toNat := by
  have lt : p - 4 < 20 := by omega
  simp [argByte, argsOf, List.getD_eq_getElem?_getD, lt]

/-- A 16-bit argument that stands at its two bytes. -/
theorem argHalf_argsOf {bs : List Byte} {p : Nat} {w : BitVec 16} (hp : p + 1 < 24)
    (lo : bs.getD (p - 4) 0 = byteOf w.toNat) (hi : bs.getD (p + 1 - 4) 0 = byteOf (w.toNat / 256)) :
    argHalf (argsOf bs) p = w.toNat := by
  have lt := w.isLt
  rw [argHalf, argByte_argsOf bs (by omega), argByte_argsOf bs hp, lo, hi]
  simp only [byteOf, BitVec.toNat_ofNat]
  omega

/-! ### SET_RAIL_LIMIT (R47) -/

/-- The argument bytes of SET_RAIL_LIMIT. -/
def limitBytes (rail : Byte) (dual single : BitVec 16) : List Byte := [rail, 0] ++ halfBytes dual ++ halfBytes single

theorem limitBytes_args (rail : Byte) (dual single : BitVec 16) :
    argByte (argsOf (limitBytes rail dual single)) 4 = rail.toNat ∧
    argHalf (argsOf (limitBytes rail dual single)) 6 = dual.toNat ∧
    argHalf (argsOf (limitBytes rail dual single)) 8 = single.toNat :=
  ⟨argByte_argsOf _ (by decide), argHalf_argsOf (by decide) rfl rfl, argHalf_argsOf (by decide) rfl rfl⟩

theorem formCheck_limit {rail : Byte} (dual single : BitVec 16) (h : rail.toNat ≤ 3) :
    formCheck kindSetRailLimit (argsOf (limitBytes rail dual single)) = none := by
  have target : badTarget kindSetRailLimit (argsOf (limitBytes rail dual single)) = false := by
    change decide (3 < argByte (argsOf (limitBytes rail dual single)) 4) = false
    rw [(limitBytes_args rail dual single).1]
    simpa using h
  rw [formCheck, if_neg (by decide), target]
  rfl

theorem routeOrder_limit (hk : c.kind = kindSetRailLimit) (u : State) :
    routeOrder c u =
      finished (decideLimit (Fin.ofNat 4 (argByte c.args 4)) (argHalf c.args 6) (argHalf c.args 8) u) := by
  rw [routeOrder, hk]
  rfl

/-- The work of SET_RAIL_LIMIT at the power sequencer. -/
def limitSet (r : RailNo) (d i : Nat) (s : State) : State :=
  publishRail r (recomputeLimit r (s.setRail r { s.rail r with dual := d, single := i }))

theorem limitSet_work (r : RailNo) (d i : Nat) (s : State) : RailWork (examinationRegions r) r s (limitSet r d i s) :=
  ((setRail_railWork _ s r _).trans (recomputeLimit_work r _)).trans
    ((publishRail_rewrites r _ (.of_mem (by simp [examinationRegions]))).alone).railWork

theorem limitSet_rail (r : RailNo) (d i : Nat) (s : State) (hv : v = limitSet r d i s) :
    (v.rail r).dual = d ∧ (v.rail r).single = i ∧
    (v.rail r).admitLimit = (match s.ps.supply with | .both => d | .single => i | .none => 0) ∧
    ((v.rail r).admitLimit ≠ (s.rail r).admitLimit → examined v r) := by
  obtain ⟨w, hw⟩ : ∃ w, w = s.setRail r { s.rail r with dual := d, single := i } := ⟨_, rfl⟩
  have rail : w.rail r = { s.rail r with dual := d, single := i } := by rw [hw, State.rail_setRail_same]
  have supply : w.ps.supply = s.ps.supply := by rw [hw]; rfl
  obtain ⟨dual, single, limit, -⟩ := recomputeLimit_rail r w
  have moved := recomputeLimit_examined (r := r) (s := w) (t := recomputeLimit r w)
  rw [rail] at dual single
  rw [rail, supply] at limit moved
  have k : Publishes (recomputeLimit r w) v := by rw [hv, limitSet, ← hw]; exact publishes_publishRail r _
  rw [k.rail]
  refine ⟨dual, single, limit, fun hne => k.examined (moved ?_ rfl)⟩
  rw [← limit]
  exact hne

theorem exec_setRailLimit (x : Port) (n : SlotNo) (rail : Byte) (dual single : BitVec 16) (s : State) :
    exec (.setRailLimit x n rail dual single) s = .next (commandOrder x n kindSetRailLimit (limitBytes rail dual single) s) := rfl

/-- The answer of SET_RAIL_LIMIT, from the rail before, the limits used and asked for, and the rail after (R47). -/
def limitAnswer (old new : Rail) (d i dual single : Nat) : Answer :=
  { result := if d ≠ dual ∨ i ≠ single then .okClamped else if d = old.dual ∧ i = old.single then .already else .ok
    data := le16 d ++ le16 i ++ le16 new.admitLimit }

theorem decideLimit_eq {d i dual single : Nat} (used : usedLimits (s.railDesc r) dual single = (d, i)) :
    decideLimit r dual single s =
      (limitSet r d i s, limitAnswer (s.rail r) ((limitSet r d i s).rail r) d i dual single) := by
  rw [decideLimit, used]
  simp only [limitSet, limitAnswer, ne_eq, Prod.mk.injEq, not_and_or]

/-- Settles O57: the order's work is its rail's recomputation with the clamped limits, and the answer reads what that leaves. -/
theorem setRailLimitClampsAndRecomputes : Obligations.SetRailLimitClampsAndRecomputes := by
  intro x n rail dual single r d i s ready hrail hr hd hi
  obtain ⟨c, u, -, kind, args, taken, order⟩ := commandOrder_cases kindSetRailLimit (limitBytes rail dual single) ready
    (formCheck_limit dual single hrail) rfl
  obtain ⟨arg4, arg6, arg8⟩ := limitBytes_args rail dual single
  have desc : u.railDesc r = s.railDesc r := by rw [taken.same]; rfl
  have old : u.rail r = s.rail r := by rw [taken.same]; rfl
  have supply : u.ps.supply = s.ps.supply := by rw [taken.same]
  have used : usedLimits (u.railDesc r) dual.toNat single.toNat = (d, i) := by rw [desc, usedLimits, ← hd, ← hi]
  obtain ⟨v, hv⟩ : ∃ v, v = limitSet r d i u := ⟨_, rfl⟩
  have route : routeOrder c u = (v, some (limitAnswer (s.rail r) (v.rail r) d i dual.toNat single.toNat)) := by
    rw [routeOrder_limit kind, args, arg4, arg6, arg8, ← hr, decideLimit_eq used, old, ← hv]
    rfl
  obtain ⟨t, ht⟩ : ∃ t, t =
      passTurn x (finishSlot x n (limitAnswer (s.rail r) (v.rail r) d i dual.toNat single.toNat) v) := ⟨_, rfl⟩
  have work : RailWork (examinationRegions r) r u v := by rw [hv]; exact limitSet_work r d i u
  obtain ⟨hdual, hsingle, hlimit, moved⟩ := limitSet_rail r d i u hv
  obtain ⟨answered, done, ps, kept⟩ := (work.toPowerWork.mono (gs := slotRegion x n :: examinationRegions r) fun g hg =>
    .of_mem (List.mem_cons_of_mem _ hg)).answered taken (.of_mem (by simp)) ht
  have rails : ∀ q, t.rail q = v.rail q := fun q => by simp [State.rail, ps]
  rw [supply] at hlimit
  rw [old] at moved
  refine ⟨t, by rw [ht, exec_setRailLimit, order _ _ route], by rw [rails]; exact hdual, by rw [rails]; exact hsingle,
    by rw [rails]; exact hlimit, fun q hq => ?_, by rw [rails]; exact done, answered.left, fun hne => ?_, answered.frame,
    answered.touched⟩
  · rw [rails, work.rail_ne q hq, taken.same]
    rfl
  · rw [rails] at hne
    exact kept r (moved hne)

end

end Sys2Proof.Machine
end

section
/-! SUPPORT. The statement of SET_PROFILE (R40, R46). -/

namespace Sys2Proof.Machine

section
variable {s t u v : State} {gs : List Region} {x : Port} {n : SlotNo} {c : Context} {r : RailNo}

/-! ### The argument bytes -/

/-- The argument bytes of SET_PROFILE. -/
def profileOrderBytes (profile : Byte) (surge time running : BitVec 16) : List Byte :=
  [profile, 0] ++ halfBytes surge ++ halfBytes time ++ halfBytes running

theorem profileOrderBytes_args (profile : Byte) (surge time running : BitVec 16) :
    argByte (argsOf (profileOrderBytes profile surge time running)) 4 = profile.toNat ∧
    argHalf (argsOf (profileOrderBytes profile surge time running)) 6 = surge.toNat ∧
    argHalf (argsOf (profileOrderBytes profile surge time running)) 8 = time.toNat ∧
    argHalf (argsOf (profileOrderBytes profile surge time running)) 10 = running.toNat :=
  ⟨argByte_argsOf _ (by decide), argHalf_argsOf (by decide) rfl rfl, argHalf_argsOf (by decide) rfl rfl,
    argHalf_argsOf (by decide) rfl rfl⟩

theorem formCheck_profile {profile : Byte} (surge time running : BitVec 16) (h : profile.toNat ≤ 7) :
    formCheck kindSetProfile (argsOf (profileOrderBytes profile surge time running)) = none := by
  have target : badTarget kindSetProfile (argsOf (profileOrderBytes profile surge time running)) = false := by
    change decide (7 < argByte (argsOf (profileOrderBytes profile surge time running)) 4) = false
    rw [(profileOrderBytes_args profile surge time running).1]
    simpa using h
  rw [formCheck, if_neg (by decide), target]
  rfl

theorem routeOrder_profile (hk : c.kind = kindSetProfile) (u : State) :
    routeOrder c u =
      finished (decideProfile (Fin.ofNat 8 (argByte c.args 4))
        { surge := argHalf c.args 6, surgeTime := argHalf c.args 8, running := argHalf c.args 10 } u) := by
  rw [routeOrder, hk]
  rfl

theorem exec_setProfile (x : Port) (n : SlotNo) (profile : Byte) (surge time running : BitVec 16) (s : State) :
    exec (.setProfile x n profile surge time running) s =
      .next (commandOrder x n kindSetProfile (profileOrderBytes profile surge time running) s) := rfl

/-! ### The examinations that a change of bays' draws calls for (R40) -/

theorem examineRailsOf_work (p : BayNo → Bool) (s : State) (hc : ∀ r, ∀ g ∈ examinationRegions r, Covers gs g) :
    PowerWork gs s (examineRailsOf p s) :=
  forEach_relates _ (.refl gs) .trans (fun r _ w => by
    split
    · exact ((examineRail_railWork r w).mono (hc r)).toPowerWork
    · exact .refl gs w) s

/-- A rail with a queued bay of the property stands examined after them: its own turn examines it, and the others are not seen by
it. -/
theorem examineRailsOf_examined {p : BayNo → Bool} {e : QueueEntry} (he : e ∈ s.ps.queue) (hp : p e.bay = true)
    (ht : t = examineRailsOf p s) : examined t (railOf s e.bay) := by
  have any : s.ps.queue.any (fun k => decide (railOf s k.bay = railOf s e.bay) && p k.bay) = true :=
    List.any_eq_true.mpr ⟨e, he, by simp [hp]⟩
  rw [ht]
  refine forFour_at (railOf s e.bay) (P := fun _ => True) (Q := fun u => examined u (railOf s e.bay)) (fun _ _ _ _ => trivial)
    (fun u _ => ?_) (fun q hq u hu => ?_) s trivial
  · rw [if_pos any]
    exact examineRail_examined rfl
  · split
    · exact (examineWith_unseen _ (Ne.symm hq) u).examined hu
    · exact hu

/-! ### The work of SET_PROFILE -/

/-- The runs that SET_PROFILE touches. -/
def profileOrderRegions (x : Port) (n : SlotNo) : List Region :=
  [slotRegion x n, profileRegion, bayArea, queueRegion, eventHeaderRegion, eventArea] ++ railRegions

theorem profileOrderRegions_covered (x : Port) (n : SlotNo) (r : RailNo) :
    ∀ g ∈ examinationRegions r, Covers (profileOrderRegions x n) g :=
  examinationRegions_covered (by simp [profileOrderRegions]) (by simp [profileOrderRegions]) (by simp [profileOrderRegions])
    (by simp [profileOrderRegions]) (List.mem_append_right _ (railRegion_mem r))

/-- The profile stored and its record, then the examinations of the rails of the queued bays that name it. -/
theorem profileStored_work (p : ProfileNo) (f : Profile) (u : State) (x : Port) (n : SlotNo)
    (hv : v = examineRailsOf (namesProfile u p) (rewriteProfiles (putProfile p f u))) :
    PowerWork (profileOrderRegions x n) (putProfile p f u) v ∧ v.ps.profiles = u.ps.profiles.set p f ∧
      ∀ e ∈ u.ps.queue, (u.bay e.bay).profile = p → examined v (railOf u e.bay) := by
  obtain ⟨w, hw⟩ : ∃ w, w = rewriteProfiles (putProfile p f u) := ⟨_, rfl⟩
  have record : Publishes (putProfile p f u) w := by rw [hw]; exact publishes_rewriteProfiles _
  have touched : untouched (putProfile p f u) w (profileOrderRegions x n) := by
    rw [hw]
    refine (untouched_putRecord profileBase (profileBody _) _).mono fun g hg => ?_
    rw [List.mem_singleton.mp hg, profileBody_length]
    exact .of_mem (by simp [profileOrderRegions, profileRegion])
  rw [← hw] at hv
  have examinations : PowerWork (profileOrderRegions x n) w v := by
    rw [hv]; exact examineRailsOf_work _ w (profileOrderRegions_covered x n)
  have queue : w.ps.queue = u.ps.queue := by rw [record.ps]; rfl
  have rails : ∀ b, railOf w b = railOf u b := fun b => railOf_eq (s := putProfile p f u) record.dl b
  refine ⟨(record.railWork (r := 0) touched).toPowerWork.trans examinations, ?_, fun e he hb => ?_⟩
  · have e : v.ps.profiles = w.ps.profiles := by rw [examinations.frame.1]
    rw [e, record.ps]
    rfl
  · rw [← rails e.bay]
    exact examineRailsOf_examined (by rw [queue]; exact he) (decide_eq_true hb) hv

/-- A valid profile at SET_PROFILE (R46): the answer, and the stored profile with the work it calls for. -/
theorem decideProfile_valid {p : ProfileNo} {f : Profile} (valid : ¬(f.surgeTime < 1 ∨ 600 < f.surgeTime ∨ f.surge < f.running))
    (u : State) (x : Port) (n : SlotNo) :
    ∃ v, decideProfile p f u = (v, plain (if u.profile p = f then .already else .ok)) ∧
      PowerWork (profileOrderRegions x n) (putProfile p f u) v ∧ v.ps.profiles = u.ps.profiles.set p f ∧
      (f ≠ u.profile p → ∀ e ∈ u.ps.queue, (u.bay e.bay).profile = p → examined v (railOf u e.bay)) := by
  by_cases hf : u.profile p = f
  · have same : putProfile p f u = u := by
      have e : u.ps.profiles.set p f = u.ps.profiles := by
        rw [← hf, State.profile]
        exact Vector.set_getElem_self _
      rw [putProfile, e]
    refine ⟨u, by rw [decideProfile, if_neg valid, if_pos hf, if_pos hf], by rw [same]; exact .refl _ u, ?_, fun h => absurd hf.symm h⟩
    exact (congrArg (fun w : State => w.ps.profiles) same).symm
  · obtain ⟨v, hv⟩ : ∃ v, v = examineRailsOf (namesProfile u p) (rewriteProfiles (putProfile p f u)) := ⟨_, rfl⟩
    obtain ⟨work, profiles, moved⟩ := profileStored_work p f u x n hv
    exact ⟨v, by rw [decideProfile, if_neg valid, if_neg hf, if_neg hf, hv], work, profiles, fun _ => moved⟩

theorem Taken.putProfile (h : Taken x n c s u) (p : ProfileNo) (f : Profile) : Taken x n c (putProfile p f s) (putProfile p f u) :=
  ⟨by rw [h.same]; rfl, h.touched⟩

/-- Settles O56: an invalid profile is refused before anything is stored; a valid one is stored, and the rails of the queued bays that
name it are examined one after another. -/
theorem setProfileStoresAValidProfile : Obligations.SetProfileStoresAValidProfile := by
  intro x n profile surge time running s ready hprofile
  obtain ⟨c, u, place, kind, args, taken, order⟩ := commandOrder_cases kindSetProfile
    (profileOrderBytes profile surge time running) ready (formCheck_profile surge time running hprofile) rfl
  obtain ⟨arg4, arg6, arg8, arg10⟩ := profileOrderBytes_args profile surge time running
  have route := routeOrder_profile kind u
  rw [args, arg4, arg6, arg8, arg10] at route
  have old : ∀ p, u.profile p = s.profile p := fun p => by rw [taken.same]; rfl
  refine ⟨fun invalid => ?refused, fun valid => ?stored⟩
  case refused =>
    rw [decideProfile, if_pos invalid] at route
    exact ⟨_, by rw [exec_setProfile, order _ _ route], refused_answered taken place ready.2.2.2.2 rfl⟩
  case stored =>
    generalize (Fin.ofNat 8 profile.toNat : ProfileNo) = p at route ⊢
    obtain ⟨f, hf⟩ : ∃ f : Profile, f = { surge := surge.toNat, surgeTime := time.toNat, running := running.toNat } := ⟨_, rfl⟩
    rw [← hf] at route ⊢
    obtain ⟨v, decided, work, profiles, moved⟩ := decideProfile_valid (p := p) (f := f) (by rw [hf]; dsimp only; omega) u x n
    rw [decided, old] at route
    rw [old] at moved
    obtain ⟨t, ht⟩ : ∃ t, t = passTurn x (finishSlot x n (plain (if s.profile p = f then .already else .ok)) v) := ⟨_, rfl⟩
    obtain ⟨answered, done, ps, kept⟩ := work.answered (taken.putProfile _ _) (.of_mem (by simp [profileOrderRegions])) ht
    have set : t.ps.profiles = s.ps.profiles.set p f := by rw [ps, profiles, taken.same]
    have own : t.profile p = f := by simp [State.profile, set]
    refine ⟨t, by rw [ht, exec_setProfile, order _ _ route], own, fun q hq => ?_, done, answered.left, fun hne e he hb => ?_, ?_,
      answered.touched⟩
    · have ne : p.val ≠ q.val := fun e => hq (Fin.ext e.symm)
      simp only [State.profile, set, Fin.getElem_fin, Vector.getElem_set, if_neg ne]
    · rw [own] at hne
      have bay : u.bay e.bay = s.bay e.bay := by rw [taken.same]; rfl
      have rail : railOf u e.bay = railOf s e.bay := railOf_eq (by rw [taken.same]) e.bay
      have queue : u.ps.queue = s.ps.queue := by rw [taken.same]
      rw [← rail]
      exact kept _ (moved hne e (by rw [queue]; exact he) (by rw [bay]; exact hb))
    · rw [set]
      exact answered.frame

end

end Sys2Proof.Machine
end

section
/-! SUPPORT. Faults: the sample that finds one, the isolation of its bay, and the events (R54 to R60). -/

namespace Sys2Proof.Machine

section
variable {s t u v : State} {gs hs : List Region} {r : RailNo} {b c : BayNo}

/-! ### The sample (R4, R54) -/

theorem applyPresence_settled {f : ScanFrame} (h : settled s f c) : applyPresence c (f.presence.getLsbD c.val) s = s := by
  unfold settled at h
  unfold applyPresence
  cases hs : (s.bay c).state with
  | disabled => rfl
  | absent => rw [hs] at h; dsimp only at h ⊢; rw [h]; rfl
  | arriving => rw [hs] at h; dsimp only at h ⊢; rw [h.1, h.2]; rfl
  | seated g => rw [hs] at h; dsimp only at h ⊢; rw [h]; rfl
  | leaving g => rw [hs] at h; dsimp only at h ⊢; rw [h.1, h.2]; rfl

theorem sampleBay_settled {f : ScanFrame} (h : settled s f c) (hf : f.fault.getLsbD c.val = false) : sampleBay f c s = s := by
  rw [sampleBay, applyPresence_settled h, hf, applyFault, if_neg (by simp)]

/-- A bay left or admitted stays settled: one that is admitted was seated before. -/
theorem settled_of_left {f : ScanFrame} (h : settled s f c) (hu : t.uptime = s.uptime) (hd : t.dl = s.dl)
    (hl : leftOrAdmitted s t c) : settled t f c := by
  rcases hl with ⟨hb, -⟩ | ⟨hs, ht, -⟩
  · have timer : debounceOver t c = debounceOver s c := by simp only [debounceOver, debounceEnd, hu, hd, hb]
    rw [settled, hb, timer]
    exact h
  · rw [settled, hs] at h
    rw [settled, ht]
    exact h

/-- A sample that finds one fault, in settled bays, is the work of that fault. -/
theorem sampleSweep_eq {f : ScanFrame} (hs : ∀ c, settled s f c) (hf : ∀ c : BayNo, f.fault.getLsbD c.val = decide (c = b))
    (ht : t = applyFault b true s) (hu : t.uptime = s.uptime) (hd : t.dl = s.dl) (left : ∀ c, c ≠ b → leftOrAdmitted s t c) :
    forBays (sampleBay f) s = t := by
  have nodup := List.nodup_finRange 96
  obtain ⟨l, m, hl⟩ := List.append_of_mem (List.mem_finRange b)
  rw [hl, List.nodup_append, List.nodup_cons] at nodup
  have other : ∀ c, c ≠ b → f.fault.getLsbD c.val = false := fun c hc => by rw [hf]; simpa using hc
  rw [forBays, hl, forEach_append]
  have before : forEach l (sampleBay f) s = s := forEach_same _ _ fun c hc =>
    sampleBay_settled (hs c) (other c fun e => nodup.2.2 c hc b (by simp) e)
  have turn : sampleBay f b s = t := by
    rw [sampleBay, applyPresence_settled (hs b), hf, ht]
    simp
  rw [before, forEach, turn]
  exact forEach_same _ _ fun c hc =>
    have ne : c ≠ b := fun e => nodup.2.1.1 (e ▸ hc)
    sampleBay_settled (settled_of_left (hs c) hu hd (left c ne)) (other c ne)

/-! ### Work on one bay and its rail -/

/-- Work on bay b and rail r, and of the power sequencer: every other bay is left or admitted. -/
structure BayWork (gs : List Region) (r : RailNo) (b : BayNo) (s t : State) : Prop where
  frame : onlyBaysAndPower s t
  touched : untouched s t gs
  left : ∀ c, c ≠ b → leftOrAdmitted s t c
  rail_ne : ∀ q, q ≠ r → t.rail q = s.rail q

theorem BayWork.trans (h : BayWork gs r b s t) (k : BayWork gs r b t u) : BayWork gs r b s u :=
  ⟨h.frame.trans k.frame, h.touched.trans k.touched, fun c hc => (h.left c hc).trans (k.left c hc),
    fun q hq => (k.rail_ne q hq).trans (h.rail_ne q hq)⟩

theorem RailWork.bayWork (h : RailWork gs r s t) (b : BayNo) : BayWork gs r b s t :=
  ⟨h.frame, h.touched, fun c _ => h.left c, h.rail_ne⟩

theorem BayWork.mono (h : BayWork hs r b s t) (c : ∀ g ∈ hs, Covers gs g) : BayWork gs r b s t :=
  ⟨h.frame, h.touched.mono c, h.left, h.rail_ne⟩

theorem BayWork.uptime (h : BayWork gs r b s t) : t.uptime = s.uptime := by rw [h.frame.1]
theorem BayWork.dl (h : BayWork gs r b s t) : t.dl = s.dl := by rw [h.frame.1]

theorem setBay_bayWork (gs : List Region) (r : RailNo) (b : BayNo) (v : Bay) (s : State) : BayWork gs r b s (s.setBay b v) :=
  ⟨⟨rfl, (Notified.refl _).only, (Notified.refl _).only⟩, .refl s gs,
    fun _ hc => .inl ⟨State.bay_setBay_ne s (Ne.symm hc) v, rfl, rfl⟩, fun _ _ => rfl⟩

theorem moveBay_bayWork (gs : List Region) (r : RailNo) (b : BayNo) (v : BayState) (s : State) : BayWork gs r b s (moveBay b v s) :=
  setBay_bayWork gs r b _ s

theorem logEvent_railWork {e : Event} (he : e.detail.length = 4) (s : State) : RailWork (examinationRegions r) r s (logEvent e s) :=
  (publishes_logEvent e s).railWork
    (logEvent_touches he s (covers_eventRegion (by simp [examinationRegions]) _) (.of_mem (by simp [examinationRegions])))

theorem publishBay_railWork (b : BayNo) (s : State) : RailWork (examinationRegions r) r s (publishBay b s) :=
  (publishes_publishBay b s).railWork (publishBay_rewrites b s (covers_bayRegion (by simp [examinationRegions]) b)).touched

theorem bookCharge_bayWork (gs : List Region) (b : BayNo) (n : Nat) (s : State) : BayWork gs (railOf s b) b s (bookCharge b n s) :=
  ⟨⟨rfl, (Notified.refl _).only, (Notified.refl _).only⟩, .refl s gs,
    fun _ hc => .inl ⟨rfl, State.charge_setCharge_ne _ (Ne.symm hc) n, rfl⟩,
    fun q hq => by rw [bookCharge_rail, if_neg (Ne.symm hq)]⟩

theorem handCharge_bayWork (b : BayNo) (n : Nat) (s : State) :
    BayWork (examinationRegions (railOf s b)) (railOf s b) b s (handCharge b n s) := by
  unfold handCharge
  split
  · exact (RailWork.refl _ _ s).bayWork b
  · have booked := bookCharge_bayWork (examinationRegions (railOf s b)) b n s
    have evaluated := (evaluateOverLimit_alone (railOf s b) (bookCharge b n s)).railWork.bayWork b
    have rewritten := publishRail_rewrites (gs := examinationRegions (railOf s b)) (railOf s b)
      (evaluateOverLimit (railOf s b) (bookCharge b n s)) (.of_mem (by simp [examinationRegions]))
    have published := (rewritten.alone (r := railOf s b)).railWork.bayWork b
    exact (booked.trans evaluated).trans published

theorem powerDown_bayWork (b : BayNo) (h : Seated) (o : OffCause) (s : State) :
    BayWork (examinationRegions (railOf s b)) (railOf s b) b s (powerDown b h o s) :=
  ((setBay_bayWork _ _ b _ s).trans (handCharge_bayWork b 0 (s.setBay b
    { s.bay b with switch := false, surgeEnd := none, activeSince := none }))).trans
    ((logEvent_railWork (by simp [eventPoweredOff]) _).bayWork b)

/-- Finishing a bay's link is work on the bay, its order's slot and its order's context. -/
theorem finishLink_bayWork (r : RailNo) (b : BayNo) (o : Result) (s : State) :
    BayWork (linkRegions (s.bay b)) r b s (finishLink b o s) := by
  unfold finishLink linkRegions
  cases hl : (s.bay b).link with
  | none => exact (RailWork.refl _ r s).bayWork b
  | some l =>
    dsimp only
    refine BayWork.trans ?_ (setBay_bayWork _ r b _ _)
    unfold finishLingering
    split
    · have work := finishSlot_work l.1 l.2 { result := o, data := bayData s b } s
      exact ⟨work.work.frame, work.work.touched, fun c _ => work.work.left c, fun q _ => by
        have ps : (finishSlot l.1 l.2 { result := o, data := bayData s b } s).ps = s.ps := by rw [work.same]
        simp [State.rail, ps]⟩
    · exact (RailWork.refl _ r s).bayWork b

/-! ### The examination that closes it -/

/-- An examination leaves a bay that is not QUEUED. -/
theorem examineRail_leaves (hq : (s.bay b).state ≠ .seated .queued) (ht : t = examineRail r s) :
    t.bay b = s.bay b ∧ t.charge b = s.charge b ∧ examined t r ∧ t.oi = s.oi ∧ BayWork (examinationRegions r) r b s t := by
  have k := examineRail_examines r s
  have work := (examineRail_railWork r s).bayWork b
  have done : examined t r := examineRail_examined ht
  rw [← ht] at k work
  have oi : t.oi = s.oi := by rw [k.same]
  rcases k.left b with ⟨h1, h2, -⟩ | ⟨h, -⟩
  · exact ⟨h1, h2, done, oi, work⟩
  · exact absurd h hq

/-- The last acts of a change of a bay that is not QUEUED: its record, and the examination if its charge fell (R25, R40). -/
theorem closeBay_cases (fell : Bool) (hq : (s.bay b).state ≠ .seated .queued) (hr : railOf s b = r)
    (ht : t = examineIf fell b (publishBay b s)) :
    t.bay b = s.bay b ∧ t.charge b = s.charge b ∧ (fell = true → examined t r) ∧ t.oi = s.oi ∧
      BayWork (examinationRegions r) r b s t := by
  have record := publishes_publishBay b s
  have first := (publishBay_railWork (r := r) b s).bayWork b
  have rail : railOf (publishBay b s) b = r := (railOf_eq record.dl b).trans hr
  cases fell with
  | false =>
    have e : t = publishBay b s := by rw [ht, examineIf, if_neg (by simp)]
    rw [e]
    exact ⟨record.bay b, record.charge b, by simp, record.oi, first⟩
  | true =>
    have e : t = examineRail r (publishBay b s) := by rw [ht, examineIf, if_pos rfl, rail]
    have out : ((publishBay b s).bay b).state ≠ .seated .queued := by rw [record.bay]; exact hq
    obtain ⟨bay, charge, done, oi, work⟩ := examineRail_leaves out e
    exact ⟨bay.trans (record.bay b), charge.trans (record.charge b), fun _ => done, oi.trans record.oi, first.trans work⟩

end

end Sys2Proof.Machine
end

section
/-! SUPPORT. The event list through other work: what logs nothing, and two events logged after one another (R172 to R174). -/

namespace Sys2Proof.Machine

section
variable {s t u v : State} {gs : List Region} {r : RailNo} {b c : BayNo} {x : Port} {n : SlotNo}

/-- Work that logs no event: the event entries and the latest sequence number stay. -/
structure Silent (s t : State) : Prop where
  ew : t.ew = s.ew
  entries : ∀ i, i < 256 →
    Memory.readRun t.xm (eventListBase + 16 * i) 16 = Memory.readRun s.xm (eventListBase + 16 * i) 16

theorem Silent.trans (h : Silent s t) (k : Silent t u) : Silent s u :=
  ⟨k.ew.trans h.ew, fun i hi => (k.entries i hi).trans (h.entries i hi)⟩

theorem silent_of_eq (ew : t.ew = s.ew) (xm : t.xm = s.xm) : Silent s t := ⟨ew, fun _ _ => by rw [xm]⟩

theorem silent_setBay (s : State) (b : BayNo) (v : Bay) : Silent s (s.setBay b v) := silent_of_eq rfl rfl

theorem untouched.silent (h : untouched s t gs) (ew : t.ew = s.ew) (apart : ∀ g ∈ gs, Apart g eventArea) : Silent s t :=
  ⟨ew, fun i hi => h.readRun fun g hg => by
    have k := apart g hg
    simp only [Apart, eventArea, eventListBase] at k ⊢
    omega⟩

theorem Rewrites.silent (h : Rewrites gs s t) (apart : ∀ g ∈ gs, Apart g eventArea) : Silent s t := h.touched.silent h.ew apart

theorem publishRail_silent (r : RailNo) (s : State) : Silent s (publishRail r s) :=
  (publishRail_rewrites (gs := [railRegion r]) r s (.of_mem (by simp))).silent fun g hg => by
    rw [List.mem_singleton.mp hg]; exact railRegion_apart r

theorem publishBay_silent (b : BayNo) (s : State) : Silent s (publishBay b s) :=
  (publishBay_rewrites (gs := [bayRegion b]) b s (.of_mem (by simp))).silent fun g hg => by
    rw [List.mem_singleton.mp hg]; exact bayRegion_apart b

theorem slotRegion_apart (x : Port) (n : SlotNo) : Apart (slotRegion x n) eventArea := by
  have lt := slotBase_lt x n
  exact .inl (by simp only [slotRegion, eventArea]; omega)

theorem finishSlot_silent (x : Port) (n : SlotNo) (o : Answer) (s : State) : Silent s (finishSlot x n o s) := by
  have work := finishSlot_work x n o s
  exact work.touched.silent (by rw [work.same]) fun g hg => by rw [List.mem_singleton.mp hg]; exact slotRegion_apart x n

theorem finishLink_silent (b : BayNo) (o : Result) (s : State) : Silent s (finishLink b o s) := by
  unfold finishLink
  split
  · refine Silent.trans ?_ (silent_setBay _ b _)
    unfold finishLingering
    split
    · exact finishSlot_silent _ _ _ s
    · exact silent_of_eq rfl rfl
  · exact silent_of_eq rfl rfl

/-- With an empty queue an examination logs nothing. -/
theorem examineRail_silent (h : s.ps.queue = []) (r : RailNo) : Silent s (examineRail r s) := by
  rw [examineRail_none (candidate_empty h r)]
  exact (silent_of_eq (s := s) (t := setBlocked r none s) rfl rfl).trans (publishRail_silent r _)

theorem examineIf_silent (h : s.ps.queue = []) (fell : Bool) (b : BayNo) : Silent s (examineIf fell b s) := by
  unfold examineIf
  split
  · exact examineRail_silent h _
  · exact silent_of_eq rfl rfl

/-! ### Two events -/

theorem nextSequence_ne_zero (q : BitVec 32) : (nextSequence q).toNat ≠ 0 := by
  unfold nextSequence
  split
  · decide
  · rename_i h
    have ne : q.toNat ≠ 0xFFFFFFFF := fun e => h (BitVec.eq_of_toNat_eq e)
    have lt := q.isLt
    have one : (1 : BitVec 32).toNat = 1 := rfl
    rw [BitVec.toNat_add, one]
    omega

/-- Two events in a row stand at two places of the list (R174). -/
theorem eventIndex_nextSequence_ne {q : BitVec 32} (h : q.toNat ≠ 0) : eventIndex (nextSequence q) ≠ eventIndex q := by
  unfold nextSequence
  split
  · rename_i e
    rw [e]
    decide
  · rename_i e
    have ne : q.toNat ≠ 0xFFFFFFFF := fun k => e (BitVec.eq_of_toNat_eq k)
    have lt := q.isLt
    have one : (1 : BitVec 32).toNat = 1 := rfl
    rw [eventIndex, eventIndex, BitVec.toNat_add, one]
    omega

/-- An event leaves every other place of the list. -/
theorem logEvent_entries_ne {e : Event} (he : e.detail.length = 4) (s : State) {i : Nat} (hi : i ≠ eventIndex (nextSequence s.ew.latest)) :
    Memory.readRun (logEvent e s).xm (eventListBase + 16 * i) 16 = Memory.readRun s.xm (eventListBase + 16 * i) 16 := by
  refine (logEvent_untouched he s).readRun fun g hg => ?_
  rcases List.mem_cons.mp hg with rfl | hg
  · simp only [Apart, eventRegion]
    omega
  · rw [List.mem_singleton.mp hg]
    exact .inl (by simp only [eventHeaderRegion, eventHeaderBase, eventListBase]; omega)

/-- Two events with silent work around them are exactly the events logged. -/
theorem eventsLogged_two {e k : Event} (he : e.detail.length = 4) (hk : k.detail.length = 4) (before : Silent s u)
    (time : u.uptime = s.uptime) (between : Silent (logEvent e u) v) (later : v.uptime = s.uptime)
    (after : Silent (logEvent k v) t) : eventsLogged s t [e, k] := by
  have first : v.ew.latest = nextSequence s.ew.latest := by rw [between.ew, ← before.ew]; rfl
  have second : t.ew.latest = nextSequence (nextSequence s.ew.latest) := by rw [← first, after.ew]; rfl
  refine ⟨second, fun i w hw => ?_⟩
  match i with
  | 0 =>
    obtain rfl : e = w := by simpa using hw
    have logged := (logEvent_logged he u).2
    have place : (logEvent e u).ew.latest = nextSequence s.ew.latest := by rw [← first, between.ew]
    rw [place, time] at logged
    have apart := (eventIndex_nextSequence_ne (nextSequence_ne_zero s.ew.latest)).symm
    rw [← first] at apart
    rw [after.entries _ (eventIndex_lt _), sequenceAfter, sequenceAfter, ← first, logEvent_entries_ne hk v apart,
      between.entries _ (eventIndex_lt _), first]
    exact logged
  | 1 =>
    obtain rfl : k = w := by simpa using hw
    have logged := (logEvent_logged hk v).2
    have place : (logEvent k v).ew.latest = nextSequence (nextSequence s.ew.latest) := by rw [← second, after.ew]
    rw [place, later] at logged
    rw [after.entries _ (eventIndex_lt _)]
    exact logged
  | i + 2 => simp at hw

/-! ### The end of a charge -/

/-- A charge taken off a rail within its limit logs nothing (R31, R52). -/
theorem handCharge_silent (within : (s.rail (railOf s b)).overLimit = false)
    (fits : committed s (railOf s b) ≤ (s.rail (railOf s b)).admitLimit) : Silent s (handCharge b 0 s) := by
  unfold handCharge
  split
  · exact silent_of_eq rfl rfl
  · have rail := bookCharge_rail b 0 s (railOf s b)
    rw [if_pos rfl] at rail
    have draw : committed (bookCharge b 0 s) (railOf s b) ≤ committed s (railOf s b) := by
      have desc : (bookCharge b 0 s).railDesc (railOf s b) = s.railDesc (railOf s b) := rfl
      rw [committed, committed, rail, desc]
      dsimp only
      omega
    have idle : evaluateOverLimit (railOf s b) (bookCharge b 0 s) = bookCharge b 0 s := by
      rw [evaluateOverLimit]
      refine if_pos ?_
      rw [rail]
      dsimp only
      rw [within, decide_eq_false_iff_not]
      omega
    rw [idle]
    exact (silent_of_eq (s := s) (t := bookCharge b 0 s) rfl rfl).trans (publishRail_silent _ _)

/-! ### A finished slot -/

/-- A slot that has finished stays so through work apart from it. -/
theorem slotFinished.work {o : Answer} (h : slotFinished t x n o) (touched : untouched t u gs) (ports : portsNotified t u)
    (apart : ∀ g ∈ gs, Apart g (slotRegion x n)) : slotFinished u x n o := by
  obtain ⟨state, answer, notice⟩ := h
  refine ⟨?_, ?_, ?_⟩
  · rw [← state]
    refine touched _ fun g hg => ?_
    have k := apart g hg
    simp only [Apart, slotRegion, Region.has_eq_false] at k ⊢
    omega
  · rw [← answer]
    refine touched.readRun fun g hg => ?_
    have k := apart g hg
    simp only [Apart, slotRegion] at k ⊢
    omega
  · have grown : (t.port x).notice ||| (u.port x).notice = (u.port x).notice := by
      cases x <;> [exact ports.1.2; exact ports.2.2]
    rw [← grown, BitVec.getLsbD_or, notice, Bool.true_or]

theorem examinationRegions_apart (r : RailNo) (x : Port) (n : SlotNo) :
    ∀ g ∈ examinationRegions r, Apart g (slotRegion x n) := by
  have lt := slotBase_lt x n
  intro g hg
  simp only [examinationRegions, List.mem_cons, List.not_mem_nil, or_false] at hg
  rcases hg with rfl | rfl | rfl | rfl | rfl <;> refine .inr ?_
  · simp only [slotRegion, bayArea]; omega
  · simp only [slotRegion, railRegion, railBase]; omega
  · simp only [slotRegion, queueRegion, queueBase]; omega
  · simp only [slotRegion, eventHeaderRegion, eventHeaderBase]; omega
  · simp only [slotRegion, eventArea]; omega

end

end Sys2Proof.Machine
end

section
/-! SUPPORT. The isolation of a bay with a fault: the bay it leaves, its order's answer, the two events and the examination (R54 to
R60). -/

namespace Sys2Proof.Machine

section
variable {s t u v w : State} {gs : List Region} {r : RailNo} {b c : BayNo} {h : Seated} {x : Port} {n : SlotNo} {o : Result}

/-! ### Finishing a bay's link (R14) -/

theorem finishLingering_bay (x : Port) (n : SlotNo) (o : Answer) (s : State) (c : BayNo) :
    (finishLingering x n o s).bay c = s.bay c := by
  unfold finishLingering
  split
  · rw [State.bay, (finishSlot_work x n o s).same]
    rfl
  · rfl

theorem finishLink_bay (b : BayNo) (o : Result) (s : State) : (finishLink b o s).bay b = { s.bay b with link := none } := by
  unfold finishLink
  cases hl : (s.bay b).link with
  | none =>
    dsimp only
    rw [← hl]
  | some l =>
    dsimp only
    rw [State.bay_setBay_same, finishLingering_bay]

/-- The lingering order that a bay's link names finishes with the bay's state and place (R14, R17). -/
theorem finishLink_finished (link : (s.bay b).link = some (x, n)) (lingers : (lingeringOf s x n).isSome) :
    slotFinished (finishLink b o s) x n { result := o, data := bayData s b } := by
  obtain ⟨c, hc⟩ := Option.isSome_iff_exists.mp lingers
  have finished := finishSlot_finished x n { result := o, data := bayData s b } s
  unfold finishLink finishLingering
  rw [link]
  dsimp only
  rw [hc]
  exact finished

/-! ### Power down (R56) -/

theorem powerDown_oi (b : BayNo) (h : Seated) (o : OffCause) (s : State) : (powerDown b h o s).oi = s.oi := by
  have hand : ∀ u : State, (handCharge b 0 u).oi = u.oi := fun u => by
    unfold handCharge
    split
    · rfl
    · exact (publishes_publishRail _ _).oi.trans (evaluateOverLimit_cases _ _).oi
  exact (publishes_logEvent _ _).oi.trans (hand _)

/-- A bay isolated, with one more fault counted (R56, R57). -/
def isolated (b : BayNo) (h : Seated) (s : State) : State :=
  (powerDown b h .fault s).setBay b
    { (powerDown b h .fault s).bay b with retries := ((powerDown b h .fault s).bay b).retries + 1 }

theorem isolated_work (b : BayNo) (h : Seated) (s : State) :
    BayWork (examinationRegions (railOf s b)) (railOf s b) b s (isolated b h s) :=
  (powerDown_bayWork b h .fault s).trans (setBay_bayWork _ _ b _ _)

theorem isolated_bay (b : BayNo) (h : Seated) (s : State) :
    (isolated b h s).bay b =
      { s.bay b with switch := false, surgeEnd := none, activeSince := none, retries := (s.bay b).retries + 1 } := by
  simp [isolated]

theorem isolated_charge (b : BayNo) (h : Seated) (s : State) : (isolated b h s).charge b = 0 := powerDown_charge_same b h .fault s
theorem isolated_queue (b : BayNo) (h : Seated) (s : State) : (isolated b h s).ps.queue = s.ps.queue := powerDown_queue b h .fault s
theorem isolated_oi (b : BayNo) (h : Seated) (s : State) : (isolated b h s).oi = s.oi := powerDown_oi b h .fault s

/-! ### The changes of state (R57, R58, R60) -/

/-- The bay taken to COOLOFF with its cool-off timer (R57). -/
def coolDown (b : BayNo) (s : State) : State :=
  moveBay b (.seated .cooloff)
    (s.setBay b { s.bay b with coolOffEnd := some (uptimeAfter s.uptime (1000 * (s.bayDesc b).coolOff)) })

theorem coolDown_bay (b : BayNo) (s : State) :
    (coolDown b s).bay b =
      { s.bay b with
        state := .seated .cooloff, coolOffEnd := some (uptimeAfter s.uptime (1000 * (s.bayDesc b).coolOff))
        changed := if 8 = (s.bay b).state.code then (s.bay b).changed else s.uptime } := by
  rw [coolDown, moveBay_bay_same, State.bay_setBay_same]
  rfl

theorem coolDown_work (gs : List Region) (r : RailNo) (b : BayNo) (s : State) : BayWork gs r b s (coolDown b s) :=
  (setBay_bayWork gs r b _ s).trans (moveBay_bayWork gs r b _ _)

/-- The change of state after an isolation, within the retry limit or past it, with its event. -/
def faultEnds (b : BayNo) (h : Seated) (s : State) : State :=
  if (s.bay b).retries ≤ (s.bayDesc b).retryLimit then
    logEvent (eventBayFault b (s.bay b).retries (s.bayDesc b).retryLimit h false) (coolDown b s)
  else
    finishLink b .abortedFault
      (logEvent (eventBayLocked b (s.bay b).retries (s.bayDesc b).retryLimit) (moveBay b (.seated .locked) s))

theorem faultPowered_eq (b : BayNo) (h : Seated) (s : State) :
    faultPowered b h s = examineIf (decide (0 < s.charge b)) b (publishBay b (faultEnds b h (isolated b h s))) := rfl

theorem isolated_retries (b : BayNo) (h : Seated) (s : State) : ((isolated b h s).bay b).retries = (s.bay b).retries + 1 := by
  rw [isolated_bay]

theorem isolated_bayDesc (b : BayNo) (h : Seated) (s : State) : (isolated b h s).bayDesc b = s.bayDesc b :=
  bayDesc_eq (isolated_work b h s).dl b

/-- Within the retry limit: COOLOFF and BAY_FAULT (R57). -/
theorem faultEnds_cooled (within : (s.bay b).retries + 1 ≤ (s.bayDesc b).retryLimit) :
    faultEnds b h (isolated b h s) =
      logEvent (eventBayFault b ((s.bay b).retries + 1) (s.bayDesc b).retryLimit h false) (coolDown b (isolated b h s)) := by
  rw [faultEnds, isolated_retries, isolated_bayDesc, if_pos within]

/-- Past the retry limit: LOCKED, BAY_LOCKED and the end of its order (R58). -/
theorem faultEnds_locked (past : (s.bayDesc b).retryLimit < (s.bay b).retries + 1) :
    faultEnds b h (isolated b h s) =
      finishLink b .abortedFault
        (logEvent (eventBayLocked b ((s.bay b).retries + 1) (s.bayDesc b).retryLimit) (moveBay b (.seated .locked) (isolated b h s))) := by
  rw [faultEnds, isolated_retries, isolated_bayDesc, if_neg (by omega)]

/-! ### The end of the work -/

/-- What every fault of a powered bay leaves: no charge, its rail examined after a fall, and the rest of the part as work on the bay
and its rail leaves it. -/
structure FaultedOff (gs : List Region) (b : BayNo) (s t : State) : Prop where
  charge : t.charge b = 0
  fell : 0 < s.charge b → examined t (railOf s b)
  work : BayWork gs (railOf s b) b s t

theorem closeBay_faultedOff (work : BayWork gs (railOf s b) b s w) (more : ∀ g ∈ examinationRegions (railOf s b), Covers gs g)
    (charge : w.charge b = 0) (out : (w.bay b).state ≠ .seated .queued)
    (ht : t = examineIf (decide (0 < s.charge b)) b (publishBay b w)) : FaultedOff gs b s t := by
  obtain ⟨-, kept, done, -, closed⟩ := closeBay_cases (r := railOf s b) _ out (railOf_eq work.dl b) ht
  exact ⟨kept.trans charge, fun hc => done (by simpa using hc), work.trans (closed.mono more)⟩

/-- The two events of a fault, of a rail within its limit and an empty queue: nothing else of the work is logged. -/
theorem closeBay_logged {k : Event} (hk : k.detail.length = 4) (quiet : (s.rail (railOf s b)).overLimit = false)
    (fits : committed s (railOf s b) ≤ (s.rail (railOf s b)).admitLimit) (between : Silent (powerDown b h .fault s) v)
    (later : v.uptime = s.uptime) (last : Silent (logEvent k v) w) (queue : w.ps.queue = []) {fell : Bool}
    (ht : t = examineIf fell b (publishBay b w)) : eventsLogged s t [eventPoweredOff b .fault h (s.charge b), k] := by
  obtain ⟨y, hy⟩ : ∃ y, y = s.setBay b { s.bay b with switch := false, surgeEnd := none, activeSince := none } := ⟨_, rfl⟩
  have record : Silent s y := hy ▸ silent_setBay s b _
  have handed : Silent y (handCharge b 0 y) := handCharge_silent (by rw [hy]; exact quiet) (by rw [hy]; exact fits)
  have time : (handCharge b 0 y).uptime = s.uptime := (handCharge_bayWork b 0 y).uptime.trans (by rw [hy]; rfl)
  have off : powerDown b h .fault s = logEvent (eventPoweredOff b .fault h (s.charge b)) (handCharge b 0 y) := by rw [hy]; rfl
  have idle : (publishBay b w).ps.queue = [] := by rw [publishBay_ps, queue]
  have closing : Silent w t := by rw [ht]; exact (publishBay_silent b w).trans (examineIf_silent idle fell b)
  rw [off] at between
  exact eventsLogged_two (by simp [eventPoweredOff]) hk (record.trans handed) time between later (last.trans closing)

end

end Sys2Proof.Machine
end

section
/-! The statement on faults (R54 to R60). -/

namespace Sys2Proof.Machine

section
variable {s t u w : State} {f : ScanFrame} {gs : List Region} {b : BayNo} {h : Seated}

theorem linkRegions_covered (hs : List Region) (v : Bay) : ∀ g ∈ linkRegions v, Covers (hs ++ linkRegions v) g :=
  fun _ hg => .of_mem (List.mem_append_right hs hg)

theorem left_covered (hs ks : List Region) : ∀ g ∈ hs, Covers (hs ++ ks) g := fun _ hg => .of_mem (List.mem_append_left ks hg)

/-! ### A seated bay (R56 to R58) -/

/-- Within the retry limit the bay cools off and counts one retry more (R57). -/
theorem faultPowered_within (hs : (s.bay b).state = .seated h) (hp : h.powered = true)
    (within : (s.bay b).retries + 1 ≤ (s.bayDesc b).retryLimit) (ht : t = faultPowered b h s) :
    t.bay b =
        { s.bay b with
          state := .seated .cooloff, switch := false, retries := (s.bay b).retries + 1, surgeEnd := none, activeSince := none
          coolOffEnd := some (uptimeAfter s.uptime (1000 * (s.bayDesc b).coolOff)), changed := s.uptime } ∧
      FaultedOff (examinationRegions (railOf s b)) b s t ∧
      (s.ps.queue = [] → (s.rail (railOf s b)).overLimit = false →
        committed s (railOf s b) ≤ (s.rail (railOf s b)).admitLimit →
        eventsLogged s t
          [eventPoweredOff b .fault h (s.charge b),
            eventBayFault b ((s.bay b).retries + 1) (s.bayDesc b).retryLimit h false]) := by
  obtain ⟨v, hv⟩ : ∃ v, v = coolDown b (isolated b h s) := ⟨_, rfl⟩
  obtain ⟨w, hw⟩ : ∃ w, w = logEvent (eventBayFault b ((s.bay b).retries + 1) (s.bayDesc b).retryLimit h false) v := ⟨_, rfl⟩
  rw [faultPowered_eq, faultEnds_cooled within, ← hv, ← hw] at ht
  have off := isolated_work b h s
  have cooled : BayWork (examinationRegions (railOf s b)) (railOf s b) b s v := by rw [hv]; exact off.trans (coolDown_work _ _ b _)
  have work : BayWork (examinationRegions (railOf s b)) (railOf s b) b s w := by
    rw [hw]
    exact cooled.trans ((logEvent_railWork (by simp [eventBayFault]) v).bayWork b)
  have moved : 8 ≠ (s.bay b).state.code := by rw [hs]; cases h <;> simp [BayState.code, Seated.code, Seated.powered] at hp ⊢
  have bay : w.bay b =
      { s.bay b with
        state := .seated .cooloff, switch := false, retries := (s.bay b).retries + 1, surgeEnd := none, activeSince := none
        coolOffEnd := some (uptimeAfter s.uptime (1000 * (s.bayDesc b).coolOff)), changed := s.uptime } := by
    rw [hw, logEvent_bay, hv, coolDown_bay, isolated_bay, isolated_bayDesc, off.uptime]
    dsimp only
    rw [if_neg moved]
  have charge : w.charge b = 0 := by rw [hw, logEvent_charge, hv]; exact isolated_charge b h s
  have out : (w.bay b).state ≠ .seated .queued := by rw [bay]; simp
  refine ⟨(closeBay_cases _ out (railOf_eq work.dl b) ht).1.trans bay, closeBay_faultedOff work (fun _ hg => .of_mem hg) charge out ht,
    fun queue quiet fits => ?_⟩
  have between : Silent (powerDown b h .fault s) v := by rw [hv]; exact silent_of_eq rfl rfl
  have last : Silent (logEvent (eventBayFault b ((s.bay b).retries + 1) (s.bayDesc b).retryLimit h false) v) w := by
    rw [hw]; exact silent_of_eq rfl rfl
  refine closeBay_logged (by simp [eventBayFault]) quiet fits between cooled.uptime last ?_ ht
  rw [hw, logEvent_ps, hv]
  exact (isolated_queue b h s).trans queue

/-- Past the retry limit the bay is LOCKED and its lingering order finishes (R58). -/
theorem faultPowered_past (hs : (s.bay b).state = .seated h) (hp : h.powered = true)
    (past : (s.bayDesc b).retryLimit < (s.bay b).retries + 1) (ht : t = faultPowered b h s) :
    t.bay b =
        { s.bay b with
          state := .seated .locked, switch := false, retries := (s.bay b).retries + 1, surgeEnd := none, activeSince := none
          link := none, changed := s.uptime } ∧
      FaultedOff (examinationRegions (railOf s b) ++ linkRegions (s.bay b)) b s t ∧
      (s.ps.queue = [] → (s.rail (railOf s b)).overLimit = false →
        committed s (railOf s b) ≤ (s.rail (railOf s b)).admitLimit →
        eventsLogged s t
          [eventPoweredOff b .fault h (s.charge b), eventBayLocked b ((s.bay b).retries + 1) (s.bayDesc b).retryLimit]) ∧
      ∀ (x : Port) (n : SlotNo), (s.bay b).link = some (x, n) → (lingeringOf s x n).isSome →
        slotFinished t x n { result := .abortedFault, data := [9, byteOf (queuePlace s b)] } := by
  obtain ⟨v, hv⟩ : ∃ v, v = moveBay b (.seated .locked) (isolated b h s) := ⟨_, rfl⟩
  obtain ⟨u, hu⟩ : ∃ u, u = logEvent (eventBayLocked b ((s.bay b).retries + 1) (s.bayDesc b).retryLimit) v := ⟨_, rfl⟩
  obtain ⟨w, hw⟩ : ∃ w, w = finishLink b .abortedFault u := ⟨_, rfl⟩
  rw [faultPowered_eq, faultEnds_locked past, ← hv, ← hu, ← hw] at ht
  have off := isolated_work b h s
  have locked : BayWork (examinationRegions (railOf s b)) (railOf s b) b s v := by rw [hv]; exact off.trans (moveBay_bayWork _ _ b _ _)
  have logged : BayWork (examinationRegions (railOf s b)) (railOf s b) b s u := by
    rw [hu]
    exact locked.trans ((logEvent_railWork (by simp [eventBayLocked]) v).bayWork b)
  have moved : 9 ≠ (s.bay b).state.code := by rw [hs]; cases h <;> simp [BayState.code, Seated.code, Seated.powered] at hp ⊢
  have bay : u.bay b =
      { s.bay b with
        state := .seated .locked, switch := false, retries := (s.bay b).retries + 1, surgeEnd := none, activeSince := none
        changed := s.uptime } := by
    rw [hu, logEvent_bay, hv, moveBay_bay_same, isolated_bay, off.uptime]
    dsimp only
    rw [if_neg (by exact moved)]
  have link : (u.bay b).link = (s.bay b).link := by rw [bay]
  have work : BayWork (examinationRegions (railOf s b) ++ linkRegions (s.bay b)) (railOf s b) b s w := by
    have last : BayWork (linkRegions (u.bay b)) (railOf s b) b u w := by rw [hw]; exact finishLink_bayWork _ b _ u
    have same : linkRegions (u.bay b) = linkRegions (s.bay b) := by rw [linkRegions, linkRegions, link]
    rw [same] at last
    exact (logged.mono (left_covered _ _)).trans (last.mono (linkRegions_covered _ _))
  have frame := finishLink_same b .abortedFault u
  rw [← hw] at frame
  have charge : w.charge b = 0 := by
    rw [frame.charge, hu, logEvent_charge, hv]
    exact isolated_charge b h s
  have final : w.bay b =
      { s.bay b with
        state := .seated .locked, switch := false, retries := (s.bay b).retries + 1, surgeEnd := none, activeSince := none
        link := none, changed := s.uptime } := by
    rw [hw, finishLink_bay, bay]
  have out : (w.bay b).state ≠ .seated .queued := by rw [final]; simp
  have queue : u.ps.queue = s.ps.queue := by
    rw [hu, logEvent_ps, hv]
    exact isolated_queue b h s
  have closed := closeBay_cases _ out (railOf_eq work.dl b) ht
  refine ⟨closed.1.trans final, closeBay_faultedOff work (left_covered _ _) charge out ht, fun empty quiet fits => ?_,
    fun x n named lingers => ?_⟩
  · have between : Silent (powerDown b h .fault s) v := by rw [hv]; exact silent_of_eq rfl rfl
    have last : Silent (logEvent (eventBayLocked b ((s.bay b).retries + 1) (s.bayDesc b).retryLimit) v) w := by
      rw [hw, ← hu]
      exact finishLink_silent b _ u
    exact closeBay_logged (by simp [eventBayLocked]) quiet fits between locked.uptime last
      (frame.queue.trans (queue.trans empty)) ht
  · have oi : u.oi = s.oi := by
      rw [hu, (publishes_logEvent _ v).oi, hv]
      exact isolated_oi b h s
    have waiting : (lingeringOf u x n).isSome := by rw [lingeringOf, oi]; exact lingers
    have finished := finishLink_finished (o := .abortedFault) (link.trans named) waiting
    have data : bayData u b = [9, byteOf (queuePlace s b)] := by
      rw [bayData, bay, queuePlace, queue]
      rfl
    obtain ⟨-, -, -, -, last⟩ := closed
    rw [data, ← hw] at finished
    exact finished.work last.touched last.frame.2 (examinationRegions_apart _ x n)

/-! ### A LEAVING bay (R60) -/

/-- In a LEAVING bay the saved state becomes IDLE, and the count stays (R60). -/
theorem faultLeaving_cases (hs : (s.bay b).state = .leaving h) (ht : t = faultLeaving b h s) :
    t.bay b = { s.bay b with state := .leaving .idle, switch := false, surgeEnd := none, activeSince := none } ∧
      t.oi = s.oi ∧ FaultedOff (examinationRegions (railOf s b)) b s t ∧
      (s.ps.queue = [] → (s.rail (railOf s b)).overLimit = false →
        committed s (railOf s b) ≤ (s.rail (railOf s b)).admitLimit →
        eventsLogged s t
          [eventPoweredOff b .fault h (s.charge b), eventBayFault b (s.bay b).retries (s.bayDesc b).retryLimit h true]) := by
  obtain ⟨v, hv⟩ : ∃ v, v = moveBay b (.leaving .idle) (powerDown b h .fault s) := ⟨_, rfl⟩
  have off := powerDown_bayWork b h .fault s
  have left : BayWork (examinationRegions (railOf s b)) (railOf s b) b s v := by rw [hv]; exact off.trans (moveBay_bayWork _ _ b _ _)
  have saved : v.bay b = { s.bay b with state := .leaving .idle, switch := false, surgeEnd := none, activeSince := none } := by
    rw [hv, moveBay_bay_same, powerDown_bay_same]
    dsimp only
    rw [hs, if_pos (by rfl)]
  obtain ⟨w, hw⟩ : ∃ w, w = logEvent (eventBayFault b (s.bay b).retries (s.bayDesc b).retryLimit h true) v := ⟨_, rfl⟩
  have event : faultLeaving b h s = examineIf (decide (0 < s.charge b)) b (publishBay b
      (logEvent (eventBayFault b (v.bay b).retries (v.bayDesc b).retryLimit h true) v)) := by rw [hv]; rfl
  have count : (v.bay b).retries = (s.bay b).retries := by rw [saved]
  rw [event, count, bayDesc_eq left.dl, ← hw] at ht
  have work : BayWork (examinationRegions (railOf s b)) (railOf s b) b s w := by
    rw [hw]
    exact left.trans ((logEvent_railWork (by simp [eventBayFault]) v).bayWork b)
  have bay : w.bay b = v.bay b := by rw [hw, logEvent_bay]
  have charge : w.charge b = 0 := by rw [hw, logEvent_charge, hv]; exact powerDown_charge_same b h .fault s
  have out : (w.bay b).state ≠ .seated .queued := by rw [bay, saved]; simp
  have oi : w.oi = s.oi := by
    rw [hw, (publishes_logEvent _ v).oi, hv]
    exact powerDown_oi b h .fault s
  obtain ⟨kept, -, -, context, -⟩ := closeBay_cases _ out (railOf_eq work.dl b) ht
  refine ⟨kept.trans (bay.trans saved), context.trans oi, closeBay_faultedOff work (fun _ hg => .of_mem hg) charge out ht,
    fun queue quiet fits => ?_⟩
  have between : Silent (powerDown b h .fault s) v := by rw [hv]; exact silent_of_eq rfl rfl
  have last : Silent (logEvent (eventBayFault b (s.bay b).retries (s.bayDesc b).retryLimit h true) v) w := by
    rw [hw]; exact silent_of_eq rfl rfl
  refine closeBay_logged (by simp [eventBayFault]) quiet fits between left.uptime last ?_ ht
  rw [hw, logEvent_ps, hv]
  exact (powerDown_queue b h .fault s).trans queue

/-! ### The sample with a fault -/

/-- Switch enables driven out, whatever they are: a state whose other reads agree with s by definition. -/
def driven (v : Vector Bool 96) (s : State) : State := { s with bc := { s.bc with enables := v, chain := ChainLines.low } }

theorem driveEnables_eq (s : State) : driveEnables s = driven (heldEnables s) s := by rw [driveEnables, driven]

theorem heldEnables_getElem (s : State) (c : BayNo) : (heldEnables s)[c] = (s.bay c).switch := by simp [heldEnables]

/-- A sample that finds one fault in settled bays: the work of that fault after the switches held were driven out (R4). -/
theorem faultSample {v : Vector Bool 96} (hv : v = heldEnables s) (running : s.phase = .running) (settles : ∀ c, settled s f c)
    (flags : ∀ c : BayNo, f.fault.getLsbD c.val = decide (c = b)) (ht : t = applyFault b true (driven v s))
    (off : FaultedOff gs b (driven v s) t) :
    exec (.bayScanSample f) s = .next t ∧ t.charge b = 0 ∧ (0 < s.charge b → examined t (railOf s b)) ∧
      (∀ c : BayNo, c ≠ b → leftOrAdmitted s t c) ∧ (∀ c : BayNo, t.bc.enables[c] = (s.bay c).switch) ∧
      onlyBaysAndRail (railOf s b) { s with bc := { s.bc with enables := t.bc.enables, chain := ChainLines.low } } t ∧
      untouched s t gs := by
  obtain ⟨charge, fell, work⟩ := off
  have sweep := sampleSweep_eq (s := driven v s) settles flags ht work.uptime work.dl work.left
  have enables : t.bc.enables = (driven v s).bc.enables := by rw [work.frame.1]
  refine ⟨?_, charge, fell, work.left, fun c => ?_, ?_, work.touched⟩
  · have run : exec (.bayScanSample f) s = execBayScanSample f s := rfl
    rw [run, execBayScanSample, running]
    dsimp only
    rw [driveEnables_eq, ← hv, sweep]
  · rw [enables, ← heldEnables_getElem, ← hv]
    rfl
  · rw [enables]
    exact ⟨work.frame, work.rail_ne⟩

theorem applyFault_seated (ended : blankEnded s b = true) (hs : (s.bay b).state = .seated h) (hp : h.powered = true) :
    applyFault b true s = faultPowered b h s := by
  rw [applyFault, if_pos ⟨rfl, ended⟩, hs]
  dsimp only
  rw [if_pos hp]

theorem applyFault_leaving (ended : blankEnded s b = true) (hs : (s.bay b).state = .leaving h) (hp : h.powered = true) :
    applyFault b true s = faultLeaving b h s := by
  rw [applyFault, if_pos ⟨rfl, ended⟩, hs]
  dsimp only
  rw [if_pos hp]

theorem powered_of_cases (h : Seated) (hp : h = .spinup ∨ h = .active) : h.powered = true := by
  rcases hp with rfl | rfl <;> rfl

end

/-- Settles O22, by the branches of a fault's end (within the retry limit, past it, LEAVING), each followed from the isolation of
the bay to the examination of its rail, and by the sweep of a sample whose other bays are settled. -/
theorem faultFlagsTurnPoweredBaysOff : Obligations.FaultFlagsTurnPoweredBaysOff := by
  unfold Obligations.FaultFlagsTurnPoweredBaysOff
  refine ⟨fun f b h s running hs powered ended settles flags => ?_, fun f b h s running hs powered ended settles flags => ?_⟩
  · have hp := powered_of_cases h powered
    obtain ⟨v, hv⟩ : ∃ v, v = heldEnables s := ⟨_, rfl⟩
    obtain ⟨t, ht⟩ : ∃ t, t = faultPowered b h (driven v s) := ⟨_, rfl⟩
    have turn : t = applyFault b true (driven v s) := by rw [ht, applyFault_seated (s := driven v s) ended hs hp]
    by_cases within : (s.bay b).retries + 1 ≤ (s.bayDesc b).retryLimit
    · obtain ⟨bay, off, events⟩ := faultPowered_within (s := driven v s) hs hp within ht
      obtain ⟨run, charge, fell, left, enables, frame, touched⟩ := faultSample hv running settles flags turn off
      refine ⟨t, run, fun _ => bay, fun past => absurd within (by omega), ?_, charge, fell, left, enables, frame,
        touched.mono (left_covered _ _)⟩
      rw [if_pos within]
      exact events
    · have past : (s.bayDesc b).retryLimit < (s.bay b).retries + 1 := by omega
      obtain ⟨bay, off, events, answer⟩ := faultPowered_past (s := driven v s) hs hp past ht
      obtain ⟨run, charge, fell, left, enables, frame, touched⟩ := faultSample hv running settles flags turn off
      refine ⟨t, run, fun k => absurd k within, fun _ => ⟨bay, answer⟩, ?_, charge, fell, left, enables, frame, touched⟩
      rw [if_neg within]
      exact events
  · have hp := powered_of_cases h powered
    obtain ⟨v, hv⟩ : ∃ v, v = heldEnables s := ⟨_, rfl⟩
    obtain ⟨t, ht⟩ : ∃ t, t = faultLeaving b h (driven v s) := ⟨_, rfl⟩
    have turn : t = applyFault b true (driven v s) := by rw [ht, applyFault_leaving (s := driven v s) ended hs hp]
    obtain ⟨bay, oi, off, events⟩ := faultLeaving_cases (s := driven v s) hs ht
    obtain ⟨run, charge, fell, left, enables, frame, touched⟩ := faultSample hv running settles flags turn off
    exact ⟨t, run, bay, events, charge, fell, oi, left, enables, frame, touched⟩

end Sys2Proof.Machine
end
